-- ==== Sys2Proof/Word.lean ====
section
/-! DEFINITION. The widths the spec moves: 32-bit registers (00_scope.md R7, R13), single control bits (10_state.md R40) and bytes. -/

namespace Sys2Proof

/-- A register value: "PMEVTYPER<n> is a 32-bit register." (R7); the general registers and the pc have the same
width (R13: every value is a 32-bit bit string unless its width is written). Bit 0 is the least significant (R8). -/
abbrev Word := BitVec 32

/-- A byte of program memory. -/
abbrev Byte := BitVec 8

/-- A one-bit field of a control register, compared as a bit string of its width (R9). -/
abbrev Bit := BitVec 1

/-- A 16-bit event number (R149); a 10-bit one is held with its upper six bits zero. -/
abbrev EventNumber := BitVec 16

end Sys2Proof
end

