-- ==== Sys2Proof/Syntax.lean ====
section
/-! DEFINITION. The instructions: one constructor per row of spec/opcode_table.json (30_encoding.md R88), 124 rows in
the table's order: the instruction set, the instruction and the register number are the constructor's, the condition
field (A32 only) and `Rt` are its operands. -/

namespace Sys2Proof

/-- The instruction set of a row (R85, R86). -/
inductive InstrSet where
  | a32
  | t32
  deriving DecidableEq, Repr

/-- `MRC` reads the register, `MCR` writes it (R81). -/
inductive Kind where
  | mrc
  | mcr
  deriving DecidableEq, Repr

/-- The instructions of spec/opcode_table.json: `MRC PMEVTYPER<n>` and `MCR PMEVTYPER<n>`, n = 0..30, in A32 (operands
`cond`, `rt`) and in T32 (operand `rt`). -/
inductive Instr where
  | a32MrcPmevtyper0 (cond rt : BitVec 4)
  | a32MrcPmevtyper1 (cond rt : BitVec 4)
  | a32MrcPmevtyper2 (cond rt : BitVec 4)
  | a32MrcPmevtyper3 (cond rt : BitVec 4)
  | a32MrcPmevtyper4 (cond rt : BitVec 4)
  | a32MrcPmevtyper5 (cond rt : BitVec 4)
  | a32MrcPmevtyper6 (cond rt : BitVec 4)
  | a32MrcPmevtyper7 (cond rt : BitVec 4)
  | a32MrcPmevtyper8 (cond rt : BitVec 4)
  | a32MrcPmevtyper9 (cond rt : BitVec 4)
  | a32MrcPmevtyper10 (cond rt : BitVec 4)
  | a32MrcPmevtyper11 (cond rt : BitVec 4)
  | a32MrcPmevtyper12 (cond rt : BitVec 4)
  | a32MrcPmevtyper13 (cond rt : BitVec 4)
  | a32MrcPmevtyper14 (cond rt : BitVec 4)
  | a32MrcPmevtyper15 (cond rt : BitVec 4)
  | a32MrcPmevtyper16 (cond rt : BitVec 4)
  | a32MrcPmevtyper17 (cond rt : BitVec 4)
  | a32MrcPmevtyper18 (cond rt : BitVec 4)
  | a32MrcPmevtyper19 (cond rt : BitVec 4)
  | a32MrcPmevtyper20 (cond rt : BitVec 4)
  | a32MrcPmevtyper21 (cond rt : BitVec 4)
  | a32MrcPmevtyper22 (cond rt : BitVec 4)
  | a32MrcPmevtyper23 (cond rt : BitVec 4)
  | a32MrcPmevtyper24 (cond rt : BitVec 4)
  | a32MrcPmevtyper25 (cond rt : BitVec 4)
  | a32MrcPmevtyper26 (cond rt : BitVec 4)
  | a32MrcPmevtyper27 (cond rt : BitVec 4)
  | a32MrcPmevtyper28 (cond rt : BitVec 4)
  | a32MrcPmevtyper29 (cond rt : BitVec 4)
  | a32MrcPmevtyper30 (cond rt : BitVec 4)
  | a32McrPmevtyper0 (cond rt : BitVec 4)
  | a32McrPmevtyper1 (cond rt : BitVec 4)
  | a32McrPmevtyper2 (cond rt : BitVec 4)
  | a32McrPmevtyper3 (cond rt : BitVec 4)
  | a32McrPmevtyper4 (cond rt : BitVec 4)
  | a32McrPmevtyper5 (cond rt : BitVec 4)
  | a32McrPmevtyper6 (cond rt : BitVec 4)
  | a32McrPmevtyper7 (cond rt : BitVec 4)
  | a32McrPmevtyper8 (cond rt : BitVec 4)
  | a32McrPmevtyper9 (cond rt : BitVec 4)
  | a32McrPmevtyper10 (cond rt : BitVec 4)
  | a32McrPmevtyper11 (cond rt : BitVec 4)
  | a32McrPmevtyper12 (cond rt : BitVec 4)
  | a32McrPmevtyper13 (cond rt : BitVec 4)
  | a32McrPmevtyper14 (cond rt : BitVec 4)
  | a32McrPmevtyper15 (cond rt : BitVec 4)
  | a32McrPmevtyper16 (cond rt : BitVec 4)
  | a32McrPmevtyper17 (cond rt : BitVec 4)
  | a32McrPmevtyper18 (cond rt : BitVec 4)
  | a32McrPmevtyper19 (cond rt : BitVec 4)
  | a32McrPmevtyper20 (cond rt : BitVec 4)
  | a32McrPmevtyper21 (cond rt : BitVec 4)
  | a32McrPmevtyper22 (cond rt : BitVec 4)
  | a32McrPmevtyper23 (cond rt : BitVec 4)
  | a32McrPmevtyper24 (cond rt : BitVec 4)
  | a32McrPmevtyper25 (cond rt : BitVec 4)
  | a32McrPmevtyper26 (cond rt : BitVec 4)
  | a32McrPmevtyper27 (cond rt : BitVec 4)
  | a32McrPmevtyper28 (cond rt : BitVec 4)
  | a32McrPmevtyper29 (cond rt : BitVec 4)
  | a32McrPmevtyper30 (cond rt : BitVec 4)
  | t32MrcPmevtyper0 (rt : BitVec 4)
  | t32MrcPmevtyper1 (rt : BitVec 4)
  | t32MrcPmevtyper2 (rt : BitVec 4)
  | t32MrcPmevtyper3 (rt : BitVec 4)
  | t32MrcPmevtyper4 (rt : BitVec 4)
  | t32MrcPmevtyper5 (rt : BitVec 4)
  | t32MrcPmevtyper6 (rt : BitVec 4)
  | t32MrcPmevtyper7 (rt : BitVec 4)
  | t32MrcPmevtyper8 (rt : BitVec 4)
  | t32MrcPmevtyper9 (rt : BitVec 4)
  | t32MrcPmevtyper10 (rt : BitVec 4)
  | t32MrcPmevtyper11 (rt : BitVec 4)
  | t32MrcPmevtyper12 (rt : BitVec 4)
  | t32MrcPmevtyper13 (rt : BitVec 4)
  | t32MrcPmevtyper14 (rt : BitVec 4)
  | t32MrcPmevtyper15 (rt : BitVec 4)
  | t32MrcPmevtyper16 (rt : BitVec 4)
  | t32MrcPmevtyper17 (rt : BitVec 4)
  | t32MrcPmevtyper18 (rt : BitVec 4)
  | t32MrcPmevtyper19 (rt : BitVec 4)
  | t32MrcPmevtyper20 (rt : BitVec 4)
  | t32MrcPmevtyper21 (rt : BitVec 4)
  | t32MrcPmevtyper22 (rt : BitVec 4)
  | t32MrcPmevtyper23 (rt : BitVec 4)
  | t32MrcPmevtyper24 (rt : BitVec 4)
  | t32MrcPmevtyper25 (rt : BitVec 4)
  | t32MrcPmevtyper26 (rt : BitVec 4)
  | t32MrcPmevtyper27 (rt : BitVec 4)
  | t32MrcPmevtyper28 (rt : BitVec 4)
  | t32MrcPmevtyper29 (rt : BitVec 4)
  | t32MrcPmevtyper30 (rt : BitVec 4)
  | t32McrPmevtyper0 (rt : BitVec 4)
  | t32McrPmevtyper1 (rt : BitVec 4)
  | t32McrPmevtyper2 (rt : BitVec 4)
  | t32McrPmevtyper3 (rt : BitVec 4)
  | t32McrPmevtyper4 (rt : BitVec 4)
  | t32McrPmevtyper5 (rt : BitVec 4)
  | t32McrPmevtyper6 (rt : BitVec 4)
  | t32McrPmevtyper7 (rt : BitVec 4)
  | t32McrPmevtyper8 (rt : BitVec 4)
  | t32McrPmevtyper9 (rt : BitVec 4)
  | t32McrPmevtyper10 (rt : BitVec 4)
  | t32McrPmevtyper11 (rt : BitVec 4)
  | t32McrPmevtyper12 (rt : BitVec 4)
  | t32McrPmevtyper13 (rt : BitVec 4)
  | t32McrPmevtyper14 (rt : BitVec 4)
  | t32McrPmevtyper15 (rt : BitVec 4)
  | t32McrPmevtyper16 (rt : BitVec 4)
  | t32McrPmevtyper17 (rt : BitVec 4)
  | t32McrPmevtyper18 (rt : BitVec 4)
  | t32McrPmevtyper19 (rt : BitVec 4)
  | t32McrPmevtyper20 (rt : BitVec 4)
  | t32McrPmevtyper21 (rt : BitVec 4)
  | t32McrPmevtyper22 (rt : BitVec 4)
  | t32McrPmevtyper23 (rt : BitVec 4)
  | t32McrPmevtyper24 (rt : BitVec 4)
  | t32McrPmevtyper25 (rt : BitVec 4)
  | t32McrPmevtyper26 (rt : BitVec 4)
  | t32McrPmevtyper27 (rt : BitVec 4)
  | t32McrPmevtyper28 (rt : BitVec 4)
  | t32McrPmevtyper29 (rt : BitVec 4)
  | t32McrPmevtyper30 (rt : BitVec 4)
  deriving DecidableEq, Repr

/-- What an instruction's encoding holds: the decoded triple `(kind, n, t)` of R5, with the instruction set and the
condition field of the word it came from. -/
structure Fields where
  iset : InstrSet
  kind : Kind
  n : Fin 31
  cond : BitVec 4
  rt : BitVec 4
  deriving DecidableEq, Repr

/-- The condition field that means always (R120); a T32 form has no condition field and is unconditional (R86). -/
def condAlways : BitVec 4 := 0b1110#4

/-- The fields of each instruction. -/
def Instr.fields : Instr → Fields
  | .a32MrcPmevtyper0 cond rt => ⟨.a32, .mrc, 0, cond, rt⟩
  | .a32MrcPmevtyper1 cond rt => ⟨.a32, .mrc, 1, cond, rt⟩
  | .a32MrcPmevtyper2 cond rt => ⟨.a32, .mrc, 2, cond, rt⟩
  | .a32MrcPmevtyper3 cond rt => ⟨.a32, .mrc, 3, cond, rt⟩
  | .a32MrcPmevtyper4 cond rt => ⟨.a32, .mrc, 4, cond, rt⟩
  | .a32MrcPmevtyper5 cond rt => ⟨.a32, .mrc, 5, cond, rt⟩
  | .a32MrcPmevtyper6 cond rt => ⟨.a32, .mrc, 6, cond, rt⟩
  | .a32MrcPmevtyper7 cond rt => ⟨.a32, .mrc, 7, cond, rt⟩
  | .a32MrcPmevtyper8 cond rt => ⟨.a32, .mrc, 8, cond, rt⟩
  | .a32MrcPmevtyper9 cond rt => ⟨.a32, .mrc, 9, cond, rt⟩
  | .a32MrcPmevtyper10 cond rt => ⟨.a32, .mrc, 10, cond, rt⟩
  | .a32MrcPmevtyper11 cond rt => ⟨.a32, .mrc, 11, cond, rt⟩
  | .a32MrcPmevtyper12 cond rt => ⟨.a32, .mrc, 12, cond, rt⟩
  | .a32MrcPmevtyper13 cond rt => ⟨.a32, .mrc, 13, cond, rt⟩
  | .a32MrcPmevtyper14 cond rt => ⟨.a32, .mrc, 14, cond, rt⟩
  | .a32MrcPmevtyper15 cond rt => ⟨.a32, .mrc, 15, cond, rt⟩
  | .a32MrcPmevtyper16 cond rt => ⟨.a32, .mrc, 16, cond, rt⟩
  | .a32MrcPmevtyper17 cond rt => ⟨.a32, .mrc, 17, cond, rt⟩
  | .a32MrcPmevtyper18 cond rt => ⟨.a32, .mrc, 18, cond, rt⟩
  | .a32MrcPmevtyper19 cond rt => ⟨.a32, .mrc, 19, cond, rt⟩
  | .a32MrcPmevtyper20 cond rt => ⟨.a32, .mrc, 20, cond, rt⟩
  | .a32MrcPmevtyper21 cond rt => ⟨.a32, .mrc, 21, cond, rt⟩
  | .a32MrcPmevtyper22 cond rt => ⟨.a32, .mrc, 22, cond, rt⟩
  | .a32MrcPmevtyper23 cond rt => ⟨.a32, .mrc, 23, cond, rt⟩
  | .a32MrcPmevtyper24 cond rt => ⟨.a32, .mrc, 24, cond, rt⟩
  | .a32MrcPmevtyper25 cond rt => ⟨.a32, .mrc, 25, cond, rt⟩
  | .a32MrcPmevtyper26 cond rt => ⟨.a32, .mrc, 26, cond, rt⟩
  | .a32MrcPmevtyper27 cond rt => ⟨.a32, .mrc, 27, cond, rt⟩
  | .a32MrcPmevtyper28 cond rt => ⟨.a32, .mrc, 28, cond, rt⟩
  | .a32MrcPmevtyper29 cond rt => ⟨.a32, .mrc, 29, cond, rt⟩
  | .a32MrcPmevtyper30 cond rt => ⟨.a32, .mrc, 30, cond, rt⟩
  | .a32McrPmevtyper0 cond rt => ⟨.a32, .mcr, 0, cond, rt⟩
  | .a32McrPmevtyper1 cond rt => ⟨.a32, .mcr, 1, cond, rt⟩
  | .a32McrPmevtyper2 cond rt => ⟨.a32, .mcr, 2, cond, rt⟩
  | .a32McrPmevtyper3 cond rt => ⟨.a32, .mcr, 3, cond, rt⟩
  | .a32McrPmevtyper4 cond rt => ⟨.a32, .mcr, 4, cond, rt⟩
  | .a32McrPmevtyper5 cond rt => ⟨.a32, .mcr, 5, cond, rt⟩
  | .a32McrPmevtyper6 cond rt => ⟨.a32, .mcr, 6, cond, rt⟩
  | .a32McrPmevtyper7 cond rt => ⟨.a32, .mcr, 7, cond, rt⟩
  | .a32McrPmevtyper8 cond rt => ⟨.a32, .mcr, 8, cond, rt⟩
  | .a32McrPmevtyper9 cond rt => ⟨.a32, .mcr, 9, cond, rt⟩
  | .a32McrPmevtyper10 cond rt => ⟨.a32, .mcr, 10, cond, rt⟩
  | .a32McrPmevtyper11 cond rt => ⟨.a32, .mcr, 11, cond, rt⟩
  | .a32McrPmevtyper12 cond rt => ⟨.a32, .mcr, 12, cond, rt⟩
  | .a32McrPmevtyper13 cond rt => ⟨.a32, .mcr, 13, cond, rt⟩
  | .a32McrPmevtyper14 cond rt => ⟨.a32, .mcr, 14, cond, rt⟩
  | .a32McrPmevtyper15 cond rt => ⟨.a32, .mcr, 15, cond, rt⟩
  | .a32McrPmevtyper16 cond rt => ⟨.a32, .mcr, 16, cond, rt⟩
  | .a32McrPmevtyper17 cond rt => ⟨.a32, .mcr, 17, cond, rt⟩
  | .a32McrPmevtyper18 cond rt => ⟨.a32, .mcr, 18, cond, rt⟩
  | .a32McrPmevtyper19 cond rt => ⟨.a32, .mcr, 19, cond, rt⟩
  | .a32McrPmevtyper20 cond rt => ⟨.a32, .mcr, 20, cond, rt⟩
  | .a32McrPmevtyper21 cond rt => ⟨.a32, .mcr, 21, cond, rt⟩
  | .a32McrPmevtyper22 cond rt => ⟨.a32, .mcr, 22, cond, rt⟩
  | .a32McrPmevtyper23 cond rt => ⟨.a32, .mcr, 23, cond, rt⟩
  | .a32McrPmevtyper24 cond rt => ⟨.a32, .mcr, 24, cond, rt⟩
  | .a32McrPmevtyper25 cond rt => ⟨.a32, .mcr, 25, cond, rt⟩
  | .a32McrPmevtyper26 cond rt => ⟨.a32, .mcr, 26, cond, rt⟩
  | .a32McrPmevtyper27 cond rt => ⟨.a32, .mcr, 27, cond, rt⟩
  | .a32McrPmevtyper28 cond rt => ⟨.a32, .mcr, 28, cond, rt⟩
  | .a32McrPmevtyper29 cond rt => ⟨.a32, .mcr, 29, cond, rt⟩
  | .a32McrPmevtyper30 cond rt => ⟨.a32, .mcr, 30, cond, rt⟩
  | .t32MrcPmevtyper0 rt => ⟨.t32, .mrc, 0, condAlways, rt⟩
  | .t32MrcPmevtyper1 rt => ⟨.t32, .mrc, 1, condAlways, rt⟩
  | .t32MrcPmevtyper2 rt => ⟨.t32, .mrc, 2, condAlways, rt⟩
  | .t32MrcPmevtyper3 rt => ⟨.t32, .mrc, 3, condAlways, rt⟩
  | .t32MrcPmevtyper4 rt => ⟨.t32, .mrc, 4, condAlways, rt⟩
  | .t32MrcPmevtyper5 rt => ⟨.t32, .mrc, 5, condAlways, rt⟩
  | .t32MrcPmevtyper6 rt => ⟨.t32, .mrc, 6, condAlways, rt⟩
  | .t32MrcPmevtyper7 rt => ⟨.t32, .mrc, 7, condAlways, rt⟩
  | .t32MrcPmevtyper8 rt => ⟨.t32, .mrc, 8, condAlways, rt⟩
  | .t32MrcPmevtyper9 rt => ⟨.t32, .mrc, 9, condAlways, rt⟩
  | .t32MrcPmevtyper10 rt => ⟨.t32, .mrc, 10, condAlways, rt⟩
  | .t32MrcPmevtyper11 rt => ⟨.t32, .mrc, 11, condAlways, rt⟩
  | .t32MrcPmevtyper12 rt => ⟨.t32, .mrc, 12, condAlways, rt⟩
  | .t32MrcPmevtyper13 rt => ⟨.t32, .mrc, 13, condAlways, rt⟩
  | .t32MrcPmevtyper14 rt => ⟨.t32, .mrc, 14, condAlways, rt⟩
  | .t32MrcPmevtyper15 rt => ⟨.t32, .mrc, 15, condAlways, rt⟩
  | .t32MrcPmevtyper16 rt => ⟨.t32, .mrc, 16, condAlways, rt⟩
  | .t32MrcPmevtyper17 rt => ⟨.t32, .mrc, 17, condAlways, rt⟩
  | .t32MrcPmevtyper18 rt => ⟨.t32, .mrc, 18, condAlways, rt⟩
  | .t32MrcPmevtyper19 rt => ⟨.t32, .mrc, 19, condAlways, rt⟩
  | .t32MrcPmevtyper20 rt => ⟨.t32, .mrc, 20, condAlways, rt⟩
  | .t32MrcPmevtyper21 rt => ⟨.t32, .mrc, 21, condAlways, rt⟩
  | .t32MrcPmevtyper22 rt => ⟨.t32, .mrc, 22, condAlways, rt⟩
  | .t32MrcPmevtyper23 rt => ⟨.t32, .mrc, 23, condAlways, rt⟩
  | .t32MrcPmevtyper24 rt => ⟨.t32, .mrc, 24, condAlways, rt⟩
  | .t32MrcPmevtyper25 rt => ⟨.t32, .mrc, 25, condAlways, rt⟩
  | .t32MrcPmevtyper26 rt => ⟨.t32, .mrc, 26, condAlways, rt⟩
  | .t32MrcPmevtyper27 rt => ⟨.t32, .mrc, 27, condAlways, rt⟩
  | .t32MrcPmevtyper28 rt => ⟨.t32, .mrc, 28, condAlways, rt⟩
  | .t32MrcPmevtyper29 rt => ⟨.t32, .mrc, 29, condAlways, rt⟩
  | .t32MrcPmevtyper30 rt => ⟨.t32, .mrc, 30, condAlways, rt⟩
  | .t32McrPmevtyper0 rt => ⟨.t32, .mcr, 0, condAlways, rt⟩
  | .t32McrPmevtyper1 rt => ⟨.t32, .mcr, 1, condAlways, rt⟩
  | .t32McrPmevtyper2 rt => ⟨.t32, .mcr, 2, condAlways, rt⟩
  | .t32McrPmevtyper3 rt => ⟨.t32, .mcr, 3, condAlways, rt⟩
  | .t32McrPmevtyper4 rt => ⟨.t32, .mcr, 4, condAlways, rt⟩
  | .t32McrPmevtyper5 rt => ⟨.t32, .mcr, 5, condAlways, rt⟩
  | .t32McrPmevtyper6 rt => ⟨.t32, .mcr, 6, condAlways, rt⟩
  | .t32McrPmevtyper7 rt => ⟨.t32, .mcr, 7, condAlways, rt⟩
  | .t32McrPmevtyper8 rt => ⟨.t32, .mcr, 8, condAlways, rt⟩
  | .t32McrPmevtyper9 rt => ⟨.t32, .mcr, 9, condAlways, rt⟩
  | .t32McrPmevtyper10 rt => ⟨.t32, .mcr, 10, condAlways, rt⟩
  | .t32McrPmevtyper11 rt => ⟨.t32, .mcr, 11, condAlways, rt⟩
  | .t32McrPmevtyper12 rt => ⟨.t32, .mcr, 12, condAlways, rt⟩
  | .t32McrPmevtyper13 rt => ⟨.t32, .mcr, 13, condAlways, rt⟩
  | .t32McrPmevtyper14 rt => ⟨.t32, .mcr, 14, condAlways, rt⟩
  | .t32McrPmevtyper15 rt => ⟨.t32, .mcr, 15, condAlways, rt⟩
  | .t32McrPmevtyper16 rt => ⟨.t32, .mcr, 16, condAlways, rt⟩
  | .t32McrPmevtyper17 rt => ⟨.t32, .mcr, 17, condAlways, rt⟩
  | .t32McrPmevtyper18 rt => ⟨.t32, .mcr, 18, condAlways, rt⟩
  | .t32McrPmevtyper19 rt => ⟨.t32, .mcr, 19, condAlways, rt⟩
  | .t32McrPmevtyper20 rt => ⟨.t32, .mcr, 20, condAlways, rt⟩
  | .t32McrPmevtyper21 rt => ⟨.t32, .mcr, 21, condAlways, rt⟩
  | .t32McrPmevtyper22 rt => ⟨.t32, .mcr, 22, condAlways, rt⟩
  | .t32McrPmevtyper23 rt => ⟨.t32, .mcr, 23, condAlways, rt⟩
  | .t32McrPmevtyper24 rt => ⟨.t32, .mcr, 24, condAlways, rt⟩
  | .t32McrPmevtyper25 rt => ⟨.t32, .mcr, 25, condAlways, rt⟩
  | .t32McrPmevtyper26 rt => ⟨.t32, .mcr, 26, condAlways, rt⟩
  | .t32McrPmevtyper27 rt => ⟨.t32, .mcr, 27, condAlways, rt⟩
  | .t32McrPmevtyper28 rt => ⟨.t32, .mcr, 28, condAlways, rt⟩
  | .t32McrPmevtyper29 rt => ⟨.t32, .mcr, 29, condAlways, rt⟩
  | .t32McrPmevtyper30 rt => ⟨.t32, .mcr, 30, condAlways, rt⟩

/-- Read or write (R81). -/
def Instr.kind (i : Instr) : Kind := i.fields.kind

/-- The register number n (R82). -/
def Instr.reg (i : Instr) : Fin 31 := i.fields.n

/-- The general register number t (R82). -/
def Instr.rt (i : Instr) : BitVec 4 := i.fields.rt

/-- The condition field (R80, R120). -/
def Instr.cond (i : Instr) : BitVec 4 := i.fields.cond

/-- The instruction set whose row the instruction is (R88). -/
def Instr.iset (i : Instr) : InstrSet := i.fields.iset

end Sys2Proof
end

