-- ==== Sys2Proof/WellFormed.lean ====
section
/-! DEFINITION. Which instructions have an encoding, and which of those the spec gives a meaning. -/

namespace Sys2Proof

/-- An A32 form has an encoding when its condition field is not `0b1111` (30_encoding.md R85); a T32 form always has
one (R86). The register number and the widths of the operands are right by their types. -/
abbrev Instr.WellFormed (i : Instr) : Prop := i.cond ≠ 0b1111#4

/-- The forms the spec gives a meaning: unconditional (40_sysreg_access.md R120) and `Rt` not register 15 (R119). -/
abbrev Instr.Admitted (i : Instr) : Prop := i.cond = condAlways ∧ i.rt ≠ 15#4

end Sys2Proof
end

