-- ==== Sys2Proof/Decode.lean ====
section
/-! DEFINITION. From words and bytes to instructions, and back (30_encoding.md R81 to R88). The field VALUES are the
source's; every bit POSITION is general knowledge the spec supplies and marks so (R85, R86; log 5). -/

namespace Sys2Proof

/-- Why a word is not decoded. Every reason means "not in this spec" (R84, R87). -/
inductive DecodeError where
  /-- Fewer than four bytes were given; both forms are four bytes long (R86, R121). -/
  | tooShort
  /-- The A32 condition field is `0b1111`, which the layout excludes (R85). -/
  | conditionOnes
  /-- The coordinates of index 31, `CRm` = `0b1111` with `opc2` = `0b111`, which is no `PMEVTYPER` (R84, D9). -/
  | slot31
  /-- Any other word: its fields are not those of the encoding table (R81, R87). -/
  | otherCoordinates
  deriving DecidableEq, Repr

/-! ### The rows -/

/-- The A32 `MRC` rows of the table, by n (R83): none beyond n = 30. -/
def a32MrcRow (n : Nat) (cond rt : BitVec 4) : Option Instr :=
  match n with
  | 0 => some (.a32MrcPmevtyper0 cond rt)
  | 1 => some (.a32MrcPmevtyper1 cond rt)
  | 2 => some (.a32MrcPmevtyper2 cond rt)
  | 3 => some (.a32MrcPmevtyper3 cond rt)
  | 4 => some (.a32MrcPmevtyper4 cond rt)
  | 5 => some (.a32MrcPmevtyper5 cond rt)
  | 6 => some (.a32MrcPmevtyper6 cond rt)
  | 7 => some (.a32MrcPmevtyper7 cond rt)
  | 8 => some (.a32MrcPmevtyper8 cond rt)
  | 9 => some (.a32MrcPmevtyper9 cond rt)
  | 10 => some (.a32MrcPmevtyper10 cond rt)
  | 11 => some (.a32MrcPmevtyper11 cond rt)
  | 12 => some (.a32MrcPmevtyper12 cond rt)
  | 13 => some (.a32MrcPmevtyper13 cond rt)
  | 14 => some (.a32MrcPmevtyper14 cond rt)
  | 15 => some (.a32MrcPmevtyper15 cond rt)
  | 16 => some (.a32MrcPmevtyper16 cond rt)
  | 17 => some (.a32MrcPmevtyper17 cond rt)
  | 18 => some (.a32MrcPmevtyper18 cond rt)
  | 19 => some (.a32MrcPmevtyper19 cond rt)
  | 20 => some (.a32MrcPmevtyper20 cond rt)
  | 21 => some (.a32MrcPmevtyper21 cond rt)
  | 22 => some (.a32MrcPmevtyper22 cond rt)
  | 23 => some (.a32MrcPmevtyper23 cond rt)
  | 24 => some (.a32MrcPmevtyper24 cond rt)
  | 25 => some (.a32MrcPmevtyper25 cond rt)
  | 26 => some (.a32MrcPmevtyper26 cond rt)
  | 27 => some (.a32MrcPmevtyper27 cond rt)
  | 28 => some (.a32MrcPmevtyper28 cond rt)
  | 29 => some (.a32MrcPmevtyper29 cond rt)
  | 30 => some (.a32MrcPmevtyper30 cond rt)
  | _ => none

/-- The A32 `MCR` rows of the table, by n (R83): none beyond n = 30. -/
def a32McrRow (n : Nat) (cond rt : BitVec 4) : Option Instr :=
  match n with
  | 0 => some (.a32McrPmevtyper0 cond rt)
  | 1 => some (.a32McrPmevtyper1 cond rt)
  | 2 => some (.a32McrPmevtyper2 cond rt)
  | 3 => some (.a32McrPmevtyper3 cond rt)
  | 4 => some (.a32McrPmevtyper4 cond rt)
  | 5 => some (.a32McrPmevtyper5 cond rt)
  | 6 => some (.a32McrPmevtyper6 cond rt)
  | 7 => some (.a32McrPmevtyper7 cond rt)
  | 8 => some (.a32McrPmevtyper8 cond rt)
  | 9 => some (.a32McrPmevtyper9 cond rt)
  | 10 => some (.a32McrPmevtyper10 cond rt)
  | 11 => some (.a32McrPmevtyper11 cond rt)
  | 12 => some (.a32McrPmevtyper12 cond rt)
  | 13 => some (.a32McrPmevtyper13 cond rt)
  | 14 => some (.a32McrPmevtyper14 cond rt)
  | 15 => some (.a32McrPmevtyper15 cond rt)
  | 16 => some (.a32McrPmevtyper16 cond rt)
  | 17 => some (.a32McrPmevtyper17 cond rt)
  | 18 => some (.a32McrPmevtyper18 cond rt)
  | 19 => some (.a32McrPmevtyper19 cond rt)
  | 20 => some (.a32McrPmevtyper20 cond rt)
  | 21 => some (.a32McrPmevtyper21 cond rt)
  | 22 => some (.a32McrPmevtyper22 cond rt)
  | 23 => some (.a32McrPmevtyper23 cond rt)
  | 24 => some (.a32McrPmevtyper24 cond rt)
  | 25 => some (.a32McrPmevtyper25 cond rt)
  | 26 => some (.a32McrPmevtyper26 cond rt)
  | 27 => some (.a32McrPmevtyper27 cond rt)
  | 28 => some (.a32McrPmevtyper28 cond rt)
  | 29 => some (.a32McrPmevtyper29 cond rt)
  | 30 => some (.a32McrPmevtyper30 cond rt)
  | _ => none

/-- The T32 `MRC` rows of the table, by n (R83): none beyond n = 30. -/
def t32MrcRow (n : Nat) (rt : BitVec 4) : Option Instr :=
  match n with
  | 0 => some (.t32MrcPmevtyper0 rt)
  | 1 => some (.t32MrcPmevtyper1 rt)
  | 2 => some (.t32MrcPmevtyper2 rt)
  | 3 => some (.t32MrcPmevtyper3 rt)
  | 4 => some (.t32MrcPmevtyper4 rt)
  | 5 => some (.t32MrcPmevtyper5 rt)
  | 6 => some (.t32MrcPmevtyper6 rt)
  | 7 => some (.t32MrcPmevtyper7 rt)
  | 8 => some (.t32MrcPmevtyper8 rt)
  | 9 => some (.t32MrcPmevtyper9 rt)
  | 10 => some (.t32MrcPmevtyper10 rt)
  | 11 => some (.t32MrcPmevtyper11 rt)
  | 12 => some (.t32MrcPmevtyper12 rt)
  | 13 => some (.t32MrcPmevtyper13 rt)
  | 14 => some (.t32MrcPmevtyper14 rt)
  | 15 => some (.t32MrcPmevtyper15 rt)
  | 16 => some (.t32MrcPmevtyper16 rt)
  | 17 => some (.t32MrcPmevtyper17 rt)
  | 18 => some (.t32MrcPmevtyper18 rt)
  | 19 => some (.t32MrcPmevtyper19 rt)
  | 20 => some (.t32MrcPmevtyper20 rt)
  | 21 => some (.t32MrcPmevtyper21 rt)
  | 22 => some (.t32MrcPmevtyper22 rt)
  | 23 => some (.t32MrcPmevtyper23 rt)
  | 24 => some (.t32MrcPmevtyper24 rt)
  | 25 => some (.t32MrcPmevtyper25 rt)
  | 26 => some (.t32MrcPmevtyper26 rt)
  | 27 => some (.t32MrcPmevtyper27 rt)
  | 28 => some (.t32MrcPmevtyper28 rt)
  | 29 => some (.t32MrcPmevtyper29 rt)
  | 30 => some (.t32MrcPmevtyper30 rt)
  | _ => none

/-- The T32 `MCR` rows of the table, by n (R83): none beyond n = 30. -/
def t32McrRow (n : Nat) (rt : BitVec 4) : Option Instr :=
  match n with
  | 0 => some (.t32McrPmevtyper0 rt)
  | 1 => some (.t32McrPmevtyper1 rt)
  | 2 => some (.t32McrPmevtyper2 rt)
  | 3 => some (.t32McrPmevtyper3 rt)
  | 4 => some (.t32McrPmevtyper4 rt)
  | 5 => some (.t32McrPmevtyper5 rt)
  | 6 => some (.t32McrPmevtyper6 rt)
  | 7 => some (.t32McrPmevtyper7 rt)
  | 8 => some (.t32McrPmevtyper8 rt)
  | 9 => some (.t32McrPmevtyper9 rt)
  | 10 => some (.t32McrPmevtyper10 rt)
  | 11 => some (.t32McrPmevtyper11 rt)
  | 12 => some (.t32McrPmevtyper12 rt)
  | 13 => some (.t32McrPmevtyper13 rt)
  | 14 => some (.t32McrPmevtyper14 rt)
  | 15 => some (.t32McrPmevtyper15 rt)
  | 16 => some (.t32McrPmevtyper16 rt)
  | 17 => some (.t32McrPmevtyper17 rt)
  | 18 => some (.t32McrPmevtyper18 rt)
  | 19 => some (.t32McrPmevtyper19 rt)
  | 20 => some (.t32McrPmevtyper20 rt)
  | 21 => some (.t32McrPmevtyper21 rt)
  | 22 => some (.t32McrPmevtyper22 rt)
  | 23 => some (.t32McrPmevtyper23 rt)
  | 24 => some (.t32McrPmevtyper24 rt)
  | 25 => some (.t32McrPmevtyper25 rt)
  | 26 => some (.t32McrPmevtyper26 rt)
  | 27 => some (.t32McrPmevtyper27 rt)
  | 28 => some (.t32McrPmevtyper28 rt)
  | 29 => some (.t32McrPmevtyper29 rt)
  | 30 => some (.t32McrPmevtyper30 rt)
  | _ => none

/-- The row of the table with these fields. -/
def rowOfFields (f : Fields) : Option Instr :=
  match f.iset, f.kind with
  | .a32, .mrc => a32MrcRow f.n.val f.cond f.rt
  | .a32, .mcr => a32McrRow f.n.val f.cond f.rt
  | .t32, .mrc => t32MrcRow f.n.val f.rt
  | .t32, .mcr => t32McrRow f.n.val f.rt

/-! ### The fields of a word (R85, R86), as bit slices [hi:lo] (R8) -/

/-- The top four bits: `cond` in A32 (R85), fixed `0b1110` in T32 (R86). -/
def wordTop (w : Word) : BitVec 4 := w.extractLsb' 28 4

/-- Bits 27:24, fixed `0b1110`. -/
def wordFixed (w : Word) : BitVec 4 := w.extractLsb' 24 4

/-- `opc1`, bits 23:21. -/
def wordOpc1 (w : Word) : BitVec 3 := w.extractLsb' 21 3

/-- `L`, bit 20: 1 for `MRC`, 0 for `MCR`. -/
def wordL (w : Word) : Bit := w.extractLsb' 20 1

/-- `CRn`, bits 19:16. -/
def wordCRn (w : Word) : BitVec 4 := w.extractLsb' 16 4

/-- `Rt`, bits 15:12. -/
def wordRt (w : Word) : BitVec 4 := w.extractLsb' 12 4

/-- `coproc`, bits 11:8. -/
def wordCoproc (w : Word) : BitVec 4 := w.extractLsb' 8 4

/-- `opc2`, bits 7:5. -/
def wordOpc2 (w : Word) : BitVec 3 := w.extractLsb' 5 3

/-- Bit 4, fixed 1. -/
def wordBit4 (w : Word) : Bit := w.extractLsb' 4 1

/-- `CRm`, bits 3:0. -/
def wordCRm (w : Word) : BitVec 4 := w.extractLsb' 0 4

/-- `CRm<1:0>:opc2<2:0>`, the 5-bit index of R82. -/
def wordIndex (w : Word) : BitVec 5 := (wordCRm w).extractLsb' 0 2 ++ wordOpc2 w

/-- Do the fixed fields have the values of the encoding table (R81), with `CRm<3:2>` = `0b11`? -/
def wordSelectsBank (w : Word) : Bool :=
  wordFixed w == 0b1110#4 && wordOpc1 w == 0b000#3 && wordCRn w == 0b1110#4 &&
    wordCoproc w == 0b1111#4 && wordBit4 w == 0b1#1 && (wordCRm w).extractLsb' 2 2 == 0b11#2

/-- `MRC` or `MCR`, by the bit `L` (R85). -/
def wordKind (w : Word) : Kind := if wordL w == 0b1#1 then .mrc else .mcr

/-- Decoding of a word of the given instruction set, total: an instruction or a named reason (R81, R82, R84, R87). -/
def decodeWord (iset : InstrSet) (w : Word) : Except DecodeError Instr :=
  if iset = .a32 ∧ wordTop w = 0b1111#4 then .error .conditionOnes
  else if iset = .t32 ∧ wordTop w ≠ 0b1110#4 then .error .otherCoordinates
  else if wordSelectsBank w then
    if h : (wordIndex w).toNat < 31 then
      match rowOfFields ⟨iset, wordKind w, ⟨(wordIndex w).toNat, h⟩, wordTop w, wordRt w⟩ with
      | some i => .ok i
      | none => .error .otherCoordinates
    else .error .slot31
  else .error .otherCoordinates

/-! ### Bytes. The order in which a word's bytes lie in memory is PRESUMED (log 6): the spec leaves it out (R63). -/

/-- The word that four bytes in memory order make: A32 little-endian; T32 two little-endian halfwords, hw1 first,
read as `hw1:hw2` (R86). -/
def wordOfBytes (iset : InstrSet) (b0 b1 b2 b3 : Byte) : Word :=
  match iset with
  | .a32 => b3 ++ b2 ++ b1 ++ b0
  | .t32 => b1 ++ b0 ++ b3 ++ b2

/-- Byte k of a word, k = 0 the least significant. -/
def byteOf (w : Word) (k : Nat) : Byte := w.extractLsb' (8 * k) 8

/-- The four bytes of a word in memory order, the inverse of `wordOfBytes`. -/
def bytesOfWord (iset : InstrSet) (w : Word) : List Byte :=
  match iset with
  | .a32 => [byteOf w 0, byteOf w 1, byteOf w 2, byteOf w 3]
  | .t32 => [byteOf w 2, byteOf w 3, byteOf w 0, byteOf w 1]

/-- Decoding of any list of bytes: the instruction at its head and the bytes left over, or a named reason. -/
def decodeBytes (iset : InstrSet) : List Byte → Except DecodeError (Instr × List Byte)
  | b0 :: b1 :: b2 :: b3 :: rest =>
    match decodeWord iset (wordOfBytes iset b0 b1 b2 b3) with
    | .ok i => .ok (i, rest)
    | .error e => .error e
  | _ => .error .tooShort

/-- The instruction the decoder reads from a table word of `nbits` bits (every bit above is 0), laid out in memory as
A32 stores it. A T32 row's `hw1:hw2` is the A32 word with `cond` = `0b1110` (R86), so the same number stands for both. -/
def decodeTableWord (nbits w : Nat) : Option Instr :=
  match decodeBytes .a32 (bytesOfWord .a32 (BitVec.ofNat 32 (w % 2 ^ nbits))) with
  | .ok (i, _) => some i
  | .error _ => none

/-! ### The encoder -/

/-- The bit `L`. -/
def kindL : Kind → Bit
  | .mrc => 0b1#1
  | .mcr => 0b0#1

/-- `CRm` = `0b11:n[4:3]` (R81). -/
def crmOf (n : Fin 31) : BitVec 4 := 0b11#2 ++ (BitVec.ofNat 5 n.val).extractLsb' 3 2

/-- `opc2` = `n[2:0]` (R81). -/
def opc2Of (n : Fin 31) : BitVec 3 := (BitVec.ofNat 5 n.val).extractLsb' 0 3

/-- `hw1`: the top four bits, `1110 : opc1 : L : CRn` (R86), in A32 with `cond` at the top (R85). -/
def encodeHigh (top : BitVec 4) (k : Kind) : BitVec 16 :=
  top ++ 0b1110#4 ++ 0b000#3 ++ kindL k ++ 0b1110#4

/-- `hw2`: `Rt : coproc : opc2 : 1 : CRm` (R86). -/
def encodeLow (n : Fin 31) (rt : BitVec 4) : BitVec 16 :=
  rt ++ 0b1111#4 ++ opc2Of n ++ 0b1#1 ++ crmOf n

/-- The word with these fields (R85, R86): `cond` at the top in A32, `0b1110` in T32. -/
def encodeFields (f : Fields) : Word :=
  match f.iset with
  | .a32 => encodeHigh f.cond f.kind ++ encodeLow f.n f.rt
  | .t32 => encodeHigh 0b1110#4 f.kind ++ encodeLow f.n f.rt

/-- The word of an instruction. -/
def encode (i : Instr) : Word := encodeFields i.fields

/-- The bytes of an instruction in memory order. -/
def encodeBytes (i : Instr) : List Byte := bytesOfWord i.iset (encode i)

end Sys2Proof
end

