-- ==== Sys2Proof/Config.lean ====
section
/-! DEFINITION. What an implementation fixes (00_scope.md R6: the record `Impl`, held in State, changed by no step) and
the free values (92_eei_decisions.md section 6: constants with no body, so that no proof can know what a draw gives). -/

namespace Sys2Proof

/-- A range of event numbers, both ends included. -/
structure EventRange where
  lo : EventNumber
  hi : EventNumber
  deriving DecidableEq, Repr

/-- Is the event number in one of the ranges? Every set of 16-bit numbers is such a list. -/
def EventRange.covers : List EventRange → EventNumber → Bool
  | [], _ => false
  | r :: rs, e => (decide (r.lo ≤ e) && decide (e ≤ r.hi)) || EventRange.covers rs e

/-- The parameter `RangeTrapForm` (60_exceptions.md R173, D5): the prose "trapped to EL2" kept as an outcome of its
own, or refined to the form the TPM trap takes. -/
inductive RangeTrapForm where
  | abstract
  | likeTPM
  deriving DecidableEq, Repr

/-- The implementation parameters of 00_scope.md R6, one field each. The source fixes none of them; no step changes
them, and a statement about every state is a statement about every implementation. -/
structure Impl where
  /-- "PMUv3 is implemented" (R101). -/
  havePMUv3 : Bool
  /-- `N`, "the number of implemented counters", 0 <= N <= 31. -/
  numCounters : Fin 32
  /-- `HaveEL(EL2)` (R27). -/
  haveEL2 : Bool
  /-- `HaveEL(EL3)` (R25, R26). -/
  haveEL3 : Bool
  /-- "ARMv8.1-PMU is implemented" (R31). -/
  havePMUv3p1 : Bool
  /-- "ARMv8.6-MTPMU is implemented or IMPLEMENTATION DEFINED multi-threaded PMU Extension is implemented" (R29). -/
  haveMTPMU : Bool
  /-- "ARMv8.6-FGT is implemented" (R106, R110). -/
  haveFGT : Bool
  /-- First component of `EventClass`: the supported event numbers (R150). -/
  supportedEvents : List EventRange
  /-- Second component of `EventClass`: the IMPLEMENTATION DEFINED event numbers (R153). -/
  impDefEvents : List EventRange
  /-- `Res0Stateful`: whether a RES0 bit keeps a written value (R34). -/
  res0Stateful : Bool
  /-- `RangeTrapForm` (R173). -/
  rangeTrapForm : RangeTrapForm
  /-- The affinity fields of this PE from level 1 upward (R147; log 12: the source does not say where they are held). -/
  upperAffinity : List Nat
  deriving DecidableEq, Repr

/-- The spec's example implementation `full` (95_test_vectors.md), with its example `EventClass`, which is an
assumption of the vectors and a fact about no PE. -/
def Impl.full : Impl where
  havePMUv3 := true
  numCounters := 6
  haveEL2 := true
  haveEL3 := true
  havePMUv3p1 := true
  haveMTPMU := true
  haveFGT := true
  supportedEvents := [⟨0x0008#16, 0x0008#16⟩, ⟨0x0011#16, 0x0011#16⟩]
  impDefEvents := [⟨0x00C0#16, 0x03FF#16⟩, ⟨0x40C0#16, 0x7FFF#16⟩]
  res0Stateful := false
  rangeTrapForm := .abstract
  upperAffinity := [0]

/-- The spec's example implementation `mini` (95_test_vectors.md). -/
def Impl.mini : Impl :=
  { Impl.full with haveEL2 := false, haveEL3 := false, havePMUv3p1 := false, haveMTPMU := false, haveFGT := false }

/-- The implementation that `State.reset` starts with: `full` with `N` = 31, as vector B21 and program P2 of
95_test_vectors.md use it. DESIGN CHOICE, unsafe (log 1): the spec fixes no implementation; no statement rests on it. -/
def Config.resetImpl : Impl := { Impl.full with numCounters := 31 }

/-! ### Free values: `draw(S)` of 00_scope.md R13. None has a body, so a proof holds for every choice. -/

/-- The bits a direct read returns where the register is UNKNOWN (R35, R115), by the number of the access. -/
opaque Config.unknownBits : Nat → Word

/-- The choice among the behaviours the rules admit for an access (R111, R112, D26), by the number of the access. -/
opaque Config.outcomeChoice : Nat → Nat

/-- What a rule that consumes an UNKNOWN bit sees (R35), by occurrence and counter. -/
opaque Config.unknownUse : Nat → Nat → Word

/-- Old or new register value before a context synchronisation event (R203), by occurrence and counter. -/
opaque Config.windowChoice : Nat → Nat → Nat

/-- `SecureEL2Filter` (R144): by occurrence, counter and register value, which covers a draw and a function. -/
opaque Config.openEL2Filter : Nat → Nat → Word → Bool

/-- `EL3Filter` (R145): by occurrence, counter and register value. -/
opaque Config.el3Filter : Nat → Nat → Word → Bool

/-- The filter's answer for an occurrence on another PE (R147, D23), by occurrence and counter. -/
opaque Config.siblingFilter : Nat → Nat → Bool

/-- "it is UNPREDICTABLE what event, if any, is counted" (R153, R154, D29), by occurrence, counter and event number. -/
opaque Config.unpredictableEvent : Nat → Nat → EventNumber → Option EventNumber

end Sys2Proof
end

