-- ==== Sys2Proof/Machine/Fields.lean ====
section
/-! DEFINITION. The fields of a register of the bank, their masks and the event number (10_state.md R21 to R36;
41_event_filter_semantics.md R149 to R154). -/

namespace Sys2Proof.Machine

/-! ### Masks (R33, R34, R36) -/

/-- A mask that is present only when its field exists. -/
def maskWhen (present : Bool) (m : Word) : Word := if present then m else 0

/-- `RWMASK`: the bits that exist as RW fields in this implementation (R33). -/
def rwMask (c : Impl) : Word :=
  0xC0000000#32 ||| maskWhen c.haveEL3 0x30000000#32 ||| maskWhen c.haveEL2 0x08000000#32 |||
    maskWhen c.haveMTPMU 0x02000000#32 ||| maskWhen c.havePMUv3p1 0x0000FC00#32 ||| 0x000003FF#32

/-- `RES0MASK` = NOT `RWMASK` (R33). -/
def res0Mask (c : Impl) : Word := ~~~(rwMask c)

/-- `EVTMASK`: the mask of the event-number bits (R33). -/
def evtMask (c : Impl) : Word := if c.havePMUv3p1 then 0x0000FFFF#32 else 0x000003FF#32

/-- `keep` of R116: the bits of a written value that the register holds. -/
def keepMask (c : Impl) : Word := if c.res0Stateful then 0xFFFFFFFF#32 else rwMask c

/-- The unknown mask that a reset leaves: `RWMASK`, plus the RES0 bits when they hold state (R36). -/
def resetUnknown (c : Impl) : Word := rwMask c ||| maskWhen c.res0Stateful (res0Mask c)

/-! ### Fields (R21) -/

/-- P, bit [31] (R23). -/
def fieldP (v : Word) : Bit := v.extractLsb' 31 1

/-- U, bit [30] (R24). -/
def fieldU (v : Word) : Bit := v.extractLsb' 30 1

/-- NSK, bit [29] (R25). -/
def fieldNSK (v : Word) : Bit := v.extractLsb' 29 1

/-- NSU, bit [28] (R26). -/
def fieldNSU (v : Word) : Bit := v.extractLsb' 28 1

/-- NSH, bit [27] (R27). -/
def fieldNSH (v : Word) : Bit := v.extractLsb' 27 1

/-- MT, bit [25] (R29). -/
def fieldMT (v : Word) : Bit := v.extractLsb' 25 1

/-- evtCount[15:10], bits [15:10] (R31). -/
def fieldEvtHigh (v : Word) : BitVec 6 := v.extractLsb' 10 6

/-- evtCount[9:0], bits [9:0] (R32). -/
def fieldEvtLow (v : Word) : BitVec 10 := v.extractLsb' 0 10

/-! ### The event number (R149 to R154) -/

/-- `EvtNum` (R149): 16 bits with ARMv8.1-PMU, else the low ten. -/
def evtNum (c : Impl) (v : Word) : EventNumber :=
  (if c.havePMUv3p1 then fieldEvtHigh v else 0#6) ++ fieldEvtLow v

/-- The cases of R150 to R154 an event number falls in, in the order the rules are tried. -/
inductive EventCase where
  /-- Supported by the PE (R150). -/
  | supported
  /-- Reserved or unsupported, 0x0000 to 0x003F (R151). -/
  | firstKnownRange
  /-- Reserved or unsupported, 0x4000 to 0x403F with a 16-bit evtCount (R152). -/
  | secondKnownRange
  /-- Reserved or unsupported, IMPLEMENTATION DEFINED (R153). -/
  | implementationDefined
  /-- Reserved or unsupported, in no listed class (R154, D16). -/
  | unlisted
  deriving DecidableEq, Repr

/-- Which case an event number falls in, by the parameter `EventClass` (R6). -/
def eventCase (c : Impl) (e : EventNumber) : EventCase :=
  if EventRange.covers c.supportedEvents e then .supported
  else if e ≤ 0x003F#16 then .firstKnownRange
  else if c.havePMUv3p1 && decide (0x4000#16 ≤ e) && decide (e ≤ 0x403F#16) then .secondKnownRange
  else if EventRange.covers c.impDefEvents e then .implementationDefined
  else .unlisted

/-- `EvtReadbackUnknown` (R150 to R154): is evtCount UNKNOWN once this number is programmed? -/
def evtReadbackUnknown (c : Impl) (e : EventNumber) : Bool :=
  match eventCase c e with
  | .supported => false
  | .firstKnownRange => false
  | .secondKnownRange => false
  | .implementationDefined => true
  | .unlisted => true

/-- The bits a write of `v` leaves UNKNOWN: all of evtCount, or none (R116). -/
def writtenUnknown (c : Impl) (v : Word) : Word := maskWhen (evtReadbackUnknown c (evtNum c v)) (evtMask c)

end Sys2Proof.Machine
end

