-- ==== Sys2Proof/Machine/State.lean ====
section
/-! DEFINITION. The state of the machine, the outcomes that end a run, and the state after reset. -/

namespace Sys2Proof.Machine

/-- Exception levels, the values of `PSTATE.EL` (60_exceptions.md R178). -/
inductive EL where
  | el0
  | el1
  | el2
  | el3
  deriving DecidableEq, Repr

/-- The access context (10_state.md R40): every input the source names and does not define. No relation between the
inputs is imposed (D2, N30). -/
structure Ctx where
  /-- `PSTATE.EL`. -/
  el : EL
  /-- The current Security state is Secure (R179). -/
  secure : Bool
  /-- `ELUsingAArch32(EL1)`. -/
  a32EL1 : Bool
  /-- `ELUsingAArch32(EL2)`. -/
  a32EL2 : Bool
  /-- `ELUsingAArch32(EL3)`. -/
  a32EL3 : Bool
  /-- `EL2Enabled()`. -/
  el2Enabled : Bool
  /-- `PMUSERENR_EL0.EN`. -/
  pmuserenrEL0EN : Bit
  /-- `PMUSERENR.EN`. -/
  pmuserenrEN : Bit
  /-- `HCR_EL2.TGE`. -/
  hcrEL2TGE : Bit
  /-- `HCR_EL2.E2H`. -/
  hcrEL2E2H : Bit
  /-- `HCR.TGE`. -/
  hcrTGE : Bit
  /-- `SCR_EL3.FGTEn`. -/
  scrEL3FGTEn : Bit
  /-- `HDFGRTR_EL2.PMEVTYPERn_EL0`, one bit for all n. -/
  hdfgrtrEL2PMEVTYPERn : Bit
  /-- `HDFGWTR_EL2.PMEVTYPERn_EL0`, one bit for all n. -/
  hdfgwtrEL2PMEVTYPERn : Bit
  /-- `MDCR_EL2.TPM`. -/
  mdcrEL2TPM : Bit
  /-- `HDCR.TPM`. -/
  hdcrTPM : Bit
  /-- `MDCR_EL3.TPM`. -/
  mdcrEL3TPM : Bit
  /-- `MDCR_EL2.HPMN`, a non-negative integer of no given width. -/
  mdcrEL2HPMN : Nat
  /-- `HDCR.HPMN`, a non-negative integer of no given width. -/
  hdcrHPMN : Nat
  deriving DecidableEq, Repr

/-- The default context of 95_test_vectors.md section 5, at EL3 and Secure: what `State.reset` holds (log 3). -/
def Ctx.atReset : Ctx where
  el := .el3
  secure := true
  a32EL1 := true
  a32EL2 := true
  a32EL3 := true
  el2Enabled := false
  pmuserenrEL0EN := 0
  pmuserenrEN := 0
  hcrEL2TGE := 0
  hcrEL2E2H := 0
  hcrTGE := 0
  scrEL3FGTEn := 0
  hdfgrtrEL2PMEVTYPERn := 0
  hdfgwtrEL2PMEVTYPERn := 0
  mdcrEL2TPM := 0
  hdcrTPM := 0
  mdcrEL3TPM := 0
  mdcrEL2HPMN := 0
  hdcrHPMN := 0

/-- The state of the PE that the spec takes as given by its surroundings: general registers, pc, instruction set and
context (R37, R38, R40). -/
structure PE where
  gpr : Vector Word 15
  pc : Word
  iset : InstrSet
  ctx : Ctx
  deriving DecidableEq, Repr

/-- The other names of the storage of a register (R41 (b), (c), (d)). -/
inductive View where
  /-- `PMXEVTYPER` with `PMSELR.SEL` = n (R117). -/
  | pmxevtyper
  /-- The AArch64 System register `PMEVTYPER<n>_EL0` (R118). -/
  | aarch64
  /-- The External register `PMEVTYPER<n>_EL0` (R118). -/
  | external
  deriving DecidableEq, Repr

/-- The resets: Warm (R200), and every other, which has the same effect on the bank (R201, D8). -/
inductive ResetKind where
  | warm
  | other
  deriving DecidableEq, Repr

/-- What an agent other than the two instructions does in its turn (R41). -/
inductive EnvEvent where
  /-- A write of register n through another view (R117, R118, D22, log 15): any value, any known or UNKNOWN bits. -/
  | viewWrite (view : View) (n : Fin 31) (value unknown : Word)
  /-- A reset (R200, R201) and the PE state it leaves, which the spec does not give (log 11). -/
  | reset (kind : ResetKind) (pe : PE)
  /-- The PE does something outside this spec that changes its own state only (D2: the context is an argument of
  every step). -/
  | surroundings (pe : PE)
  /-- The PE passes a context synchronisation event (R203). -/
  | contextSync
  deriving DecidableEq, Repr

/-- Whose turn a step is: the PE executes an instruction, or the environment acts (R41, R67: environment steps
interleave at instruction granularity). -/
inductive Turn where
  | pe
  | env (e : EnvEvent)
  deriving DecidableEq, Repr

/-- One content of a register of the bank: its value and its unknown mask (R20, R35). -/
structure EvReg where
  value : Word
  unknown : Word
  deriving DecidableEq, Repr

/-- Program memory: bytes by address, addresses strictly rising; an unlisted address holds no byte (log 7). The spec
gives no memory (20_memory.md R60); these are the words its programs list beside the pc. -/
abbrev Memory := List Host.Cell

/-- The state of the machine: the bank (R20), its unknown masks (R35), the inputs the rules read (R37, R38, R40), the
contents a write has replaced but that may still govern counting (R203), and the model's own: the implementation (R6),
the instruction set (log 5), program memory (log 7), the turns to come (R41, log 9) and the count of accesses that
numbers the draws (log 8). The bank is held for every implementation, also one without PMUv3, where the registers do not
exist (R20) and no access reaches them (DESIGN CHOICE, log 26). -/
structure State where
  /-- The implementation parameters of R6; no step changes them. -/
  impl : Impl
  /-- The access context (R40). -/
  ctx : Ctx
  /-- `PMEVTYPER[0..30]` (R20). -/
  pmevtyper : Vector Word 31
  /-- `UNK[0..30]` (R35). -/
  unk : Vector Word 31
  /-- Per register, the contents replaced since the last context synchronisation event, newest first (R203, log 14). -/
  superseded : Vector (List EvReg) 31
  /-- `x[0..14]` (R37). -/
  gpr : Vector Word 15
  /-- The program counter (R38): any 32-bit value, aligned or not (DESIGN CHOICE, log 27). -/
  pc : Word
  /-- The instruction set the PE is in; it selects only how fetched bytes are read (R86). -/
  iset : InstrSet
  /-- Program memory. -/
  mem : Memory
  /-- The turns to come; once the list is empty every turn is the PE's. -/
  turns : List Turn
  /-- How many accesses have completed: the number of the next draw (D7, D26). -/
  draws : Nat
  deriving DecidableEq, Repr

/-- Why a run stops with a fault. -/
inductive Fault where
  /-- The outcome `Undefined` (R170). Raised by an access (R101, R102 arm 0b.3, R109 to R111). Terminal by R177: safe. -/
  | undefined
  /-- The outcome `TrapA64(target, ec)` (R171). Raised by an access (R102, R103, R104). Terminal by R177: safe. -/
  | trapA64 (target : EL) (ec : Nat)
  /-- The outcome `HypTrap(ec)` (R172). Raised by an access (R102, R103). Terminal by R177: safe. -/
  | hypTrap (ec : Nat)
  /-- The outcome `TrapEL2Range` (R173). Raised by an access (R110, R111). Terminal by R177: safe. -/
  | trapEL2Range
  /-- No instruction lies at the pc: one of its four bytes is unlisted. Raised by the fetch, the model's own (log 7):
  safe, the machine stops where the spec says nothing. -/
  | noInstruction
  deriving DecidableEq, Repr

/-- Why a run stops with a refusal. -/
inductive Refusal where
  /-- An arm of exec with no meaning yet. Raised by no arm: every instruction has its meaning. Safe. -/
  | notModelled (mnemonic : String)
  /-- A conditional form (R120, D13): the spec refuses it. Raised by every instruction. Safe. -/
  | conditionNotAlways
  /-- `Rt` is register 15 (R119, D12): the spec refuses it. Raised by every instruction. Safe. -/
  | rtIsFifteen
  /-- The fetched word is "not in this spec" (R84, R87). Raised by step. Safe. -/
  | notInThisSpec (why : DecodeError)
  deriving DecidableEq, Repr

/-- The machine right after reset: the bank as R36 and R200 leave it, for the implementation the model starts with
(log 1); the value bits under the unknown mask, which R36 calls irrelevant, zero (log 2); the rest, for which the spec
gives no value, as logs 3, 4, 5, 7, 8 and 9 say. -/
def State.reset : State where
  impl := Config.resetImpl
  ctx := Ctx.atReset
  pmevtyper := Vector.replicate 31 0
  unk := Vector.replicate 31 (resetUnknown Config.resetImpl)
  superseded := Vector.replicate 31 []
  gpr := Vector.replicate 15 0
  pc := 0
  iset := .a32
  mem := []
  turns := []
  draws := 0

end Sys2Proof.Machine
end

