-- ==== Sys2Proof/Machine/Access.lean ====
section
/-! DEFINITION. Whether a direct access reaches the register (40_sysreg_access.md R100 to R112, R123): the enable and
trap checks, the counter-range rules, and the set of behaviours the two together admit. -/

namespace Sys2Proof.Machine

/-- The outcomes that raise (60_exceptions.md R170 to R173). -/
inductive Raise where
  | undefined
  | trapA64 (target : EL) (ec : Nat)
  | hypTrap (ec : Nat)
  | trapEL2Range
  deriving DecidableEq, Repr

/-- The result of stage 2. -/
inductive Check where
  | proceed
  | raise (r : Raise)
  deriving DecidableEq, Repr

/-- The outcome of an access (R100 stage 5). -/
inductive Behaviour where
  | inRange
  | razWi
  | nop
  | raise (r : Raise)
  deriving DecidableEq, Repr

/-! ### Stage 2: the enable and trap checks -/

/-- `FGTBit` (R106): the read or the write bit, taken as 0 without ARMv8.6-FGT (D27). -/
def fgtBit (c : Impl) (x : Ctx) (k : Kind) : Bit :=
  if c.haveFGT then
    match k with
    | .mrc => x.hdfgrtrEL2PMEVTYPERn
    | .mcr => x.hdfgwtrEL2PMEVTYPERn
  else 0

/-- `EL2Enabled() && !ELUsingAArch32(EL2)`. -/
def el2IsA64 (x : Ctx) : Bool := x.el2Enabled && !x.a32EL2

/-- `EL2Enabled() && ELUsingAArch32(EL2)`. -/
def el2IsA32 (x : Ctx) : Bool := x.el2Enabled && x.a32EL2

/-- The guard of the EL3 `TPM` trap, arms 0f, 1c and 2a. -/
def el3TrapsTPM (c : Impl) (x : Ctx) : Bool := c.haveEL3 && !x.a32EL3 && x.mdcrEL3TPM == 1#1

/-- The guard of the fine-grained trap, arm 0c. -/
def fgtTraps (c : Impl) (x : Ctx) (k : Kind) : Bool :=
  x.el2Enabled && !x.a32EL1 && (x.hcrEL2E2H ++ x.hcrEL2TGE) != 0b11#2 && (!c.haveEL3 || x.scrEL3FGTEn == 1#1) &&
    fgtBit c x k == 1#1

/-- The check at EL0 (R102): the arms in the order written. -/
def checkEL0 (c : Impl) (x : Ctx) (k : Kind) : Check :=
  if !x.a32EL1 && x.pmuserenrEL0EN == 0#1 then
    if el2IsA64 x && x.hcrEL2TGE == 1#1 then .raise (.trapA64 .el2 0x03)
    else .raise (.trapA64 .el1 0x03)
  else if x.a32EL1 && x.pmuserenrEN == 0#1 then
    if el2IsA64 x && x.hcrEL2TGE == 1#1 then .raise (.trapA64 .el2 0x03)
    else if el2IsA32 x && x.hcrTGE == 1#1 then .raise (.hypTrap 0x00)
    else .raise .undefined
  else if fgtTraps c x k then .raise (.trapA64 .el2 0x03)
  else if el2IsA64 x && x.mdcrEL2TPM == 1#1 then .raise (.trapA64 .el2 0x03)
  else if el2IsA32 x && x.hdcrTPM == 1#1 then .raise (.hypTrap 0x03)
  else if el3TrapsTPM c x then .raise (.trapA64 .el3 0x03)
  else .proceed

/-- The check at EL1 (R103). -/
def checkEL1 (c : Impl) (x : Ctx) : Check :=
  if el2IsA64 x && x.mdcrEL2TPM == 1#1 then .raise (.trapA64 .el2 0x03)
  else if el2IsA32 x && x.hdcrTPM == 1#1 then .raise (.hypTrap 0x03)
  else if el3TrapsTPM c x then .raise (.trapA64 .el3 0x03)
  else .proceed

/-- The check at EL2 (R104). -/
def checkEL2 (c : Impl) (x : Ctx) : Check :=
  if el3TrapsTPM c x then .raise (.trapA64 .el3 0x03) else .proceed

/-- The check at EL3 (R105). -/
def checkEL3 : Check := .proceed

/-- Dispatch on the Exception level (R123). -/
def accessCheck (c : Impl) (x : Ctx) (k : Kind) : Check :=
  match x.el with
  | .el0 => checkEL0 c x k
  | .el1 => checkEL1 c x
  | .el2 => checkEL2 c x
  | .el3 => checkEL3

/-! ### Stage 3: which register numbers are accessible -/

/-- A permitted access (R107): always, but at EL0 only when the enable that EL1's execution state selects is 1. -/
def permitted (x : Ctx) : Bool :=
  x.el != .el0 || (!x.a32EL1 && x.pmuserenrEL0EN == 1#1) || (x.a32EL1 && x.pmuserenrEN == 1#1)

/-- The number of accessible counters (R108). -/
def accessible (c : Impl) (x : Ctx) : Nat :=
  if x.el2Enabled && (x.el == .el0 || x.el == .el1) then
    if x.a32EL2 then x.hdcrHPMN else x.mdcrEL2HPMN
  else c.numCounters.val

/-- The condition of the range rule with fine-grained traps (R110), the prose's as written (C7). -/
def fgtCase (c : Impl) (x : Ctx) : Bool :=
  c.haveFGT && x.el2Enabled && !x.a32EL1 && x.el == .el0 && permitted x

/-- The members of the CONSTRAINED UNPREDICTABLE set that carry no condition (R111). -/
def unconditionalBehaviours : List Behaviour := [.raise .undefined, .razWi, .nop]

/-- The condition of the fourth member of that set (R111): the counter is implemented and reserved to EL2, and the
access is from EL1 or a permitted one from EL0. -/
def rangeMayTrap (c : Impl) (x : Ctx) (n : Fin 31) : Bool :=
  x.el2Enabled && decide (n.val < c.numCounters.val) && (x.el == .el1 || (x.el == .el0 && permitted x))

/-- `Range(n, ctx)` (R109 to R111), the set as a list. -/
def rangeBehaviours (c : Impl) (x : Ctx) (n : Fin 31) : List Behaviour :=
  if fgtCase c x && decide (c.numCounters.val ≤ n.val) then [.raise .undefined]
  else if fgtCase c x && decide (x.mdcrEL2HPMN ≤ n.val) then [.raise .trapEL2Range]
  else if accessible c x ≤ n.val then
    unconditionalBehaviours ++ (if rangeMayTrap c x n then [.raise .trapEL2Range] else [])
  else if n.val < c.numCounters.val then [.inRange]
  else unconditionalBehaviours

/-! ### Stage 4: every order of the two is admitted -/

/-- `Combine(A, B)` (R112), the set of outcomes it may draw from. -/
def combine (a : Check) (b : List Behaviour) : List Behaviour :=
  match a with
  | .proceed => b
  | .raise r => if b = [.inRange] then [.raise r] else .raise r :: b

/-- The outcomes the rules admit for an access: presence first (R101, D10), then the check and the range rules. -/
def accessBehaviours (c : Impl) (x : Ctx) (k : Kind) (n : Fin 31) : List Behaviour :=
  if c.havePMUv3 then combine (accessCheck c x k) (rangeBehaviours c x n) else [.raise .undefined]

/-- The outcome of the access with this number: the one there is, or a free choice among those admitted, made afresh
at each access (R111, D26). -/
def chooseBehaviour (access : Nat) : List Behaviour → Behaviour
  | [] => .raise .undefined
  | [b] => b
  | b :: b' :: bs => (b :: b' :: bs)[Config.outcomeChoice access % (bs.length + 2)]?.getD b

end Sys2Proof.Machine
end

