-- ==== Sys2Proof/Machine/Flags.lean ====
section
/-! DEFINITION. Flags and conditions. No rule reads or writes a flag (10_state.md R39), so State holds none; the only
trace is the condition field, of which one value is admitted (40_sysreg_access.md R120). -/

namespace Sys2Proof.Machine

/-- Is the condition field the always-executed one (R120)? -/
def conditionAdmitted (cond : BitVec 4) : Bool := cond == condAlways

end Sys2Proof.Machine
end

