-- ==== Sys2Proof/Machine/Operands.lean ====
section
/-! DEFINITION. The operands of an access: the general register `x[t]` (10_state.md R37) and the register of the bank
with its unknown mask (R20, R35). All reads and writes of either go through here. -/

namespace Sys2Proof.Machine

/-- Is t a number of the register file `x[0..14]` (R37, R119)? -/
def registerAdmitted (t : BitVec 4) : Bool := t != 15#4

/-- Read of `x[t]` (R13). There is no `x[15]`; no access reaches it (R119). -/
def State.readX (s : State) (t : BitVec 4) : Word := s.gpr[t.toNat]?.getD 0

/-- `x[t] <- v` (R13). -/
def State.writeX (s : State) (t : BitVec 4) (v : Word) : State :=
  { s with gpr := s.gpr.setIfInBounds t.toNat v }

/-- The content of register n. -/
def State.reg (s : State) (n : Fin 31) : EvReg := ⟨s.pmevtyper[n], s.unk[n]⟩

/-- Register n takes a new content; the old one may govern counting until the next context synchronisation event
(R203). -/
def State.setReg (s : State) (n : Fin 31) (r : EvReg) : State :=
  { s with
    pmevtyper := s.pmevtyper.set n r.value
    unk := s.unk.set n r.unknown
    superseded := s.superseded.set n (s.reg n :: s.superseded[n]) }

/-- The content with its UNKNOWN bits taken from a draw. -/
def EvReg.resolve (r : EvReg) (drawn : Word) : Word := (drawn &&& r.unknown) ||| (r.value &&& ~~~r.unknown)

end Sys2Proof.Machine
end

