-- ==== Sys2Proof/Machine/Ops.lean ====
section
/-! DEFINITION. The shared operations: program memory and the fetch, raising an outcome, the value a read returns and
the one a write stores, and the direct access itself (40_sysreg_access.md R100, R113 to R116, R119 to R121). -/

namespace Sys2Proof.Machine

/-! ### Program memory -/

/-- The byte at an address, or none where nothing is listed. -/
def Memory.read : Memory → Nat → Option Byte
  | [], _ => none
  | (a, v) :: rest, addr => if addr = a then some v else Memory.read rest addr

/-- The memory with a byte placed at an address; addresses stay strictly rising. -/
def Memory.write : Memory → Nat → Byte → Memory
  | [], addr, v => [(addr, v)]
  | (a, w) :: rest, addr, v =>
    if addr < a then (addr, v) :: (a, w) :: rest
    else if addr = a then (addr, v) :: rest
    else (a, w) :: Memory.write rest addr v

/-- Every listed address is at least `lo`, below 2^32, and lies above the one before it. -/
def Memory.risingFrom (lo : Nat) : Memory → Bool
  | [] => true
  | (a, _) :: rest => decide (lo ≤ a) && decide (a < 2 ^ 32) && Memory.risingFrom (a + 1) rest

/-- The canonical form: addresses strictly rising. No entry can equal what an unlisted address reads as, which is no
byte. -/
def Memory.wf (m : Memory) : Bool := Memory.risingFrom 0 m

/-- Bytes placed from an address upward; the address wraps at 2^32 (log 4). -/
def Memory.store (m : Memory) : Word → List Byte → Memory
  | _, [] => m
  | addr, b :: bs => Memory.store (m.write addr.toNat b) (addr + 1) bs

/-- The word at the pc in the byte order of the instruction set the PE is in (log 6), or none where a byte is
unlisted. The pc may hold any value, odd ones included: no alignment is checked (DESIGN CHOICE, log 27; R38 and
20_memory.md R64 leave it out). -/
def State.fetch (s : State) : Option Word := do
  let b0 ← s.mem.read s.pc.toNat
  let b1 ← s.mem.read (s.pc + 1).toNat
  let b2 ← s.mem.read (s.pc + 2).toNat
  let b3 ← s.mem.read (s.pc + 3).toNat
  return wordOfBytes s.iset b0 b1 b2 b3

/-! ### Taking an exception -/

/-- Taking an exception, as far as the spec gives it: a raising outcome is terminal and carries its fields
(60_exceptions.md R170 to R172, R177). What it saves, where it goes and how it returns are not in the spec (N7), so
there is no return operation. `TrapEL2Range` is refined as `RangeTrapForm` says (R173). -/
def State.takeException (s : State) : Raise → Host.Outcome State Fault Refusal
  | .undefined => .fault .undefined
  | .trapA64 target ec => .fault (.trapA64 target ec)
  | .hypTrap ec => .fault (.hypTrap ec)
  | .trapEL2Range =>
    match s.impl.rangeTrapForm with
    | .abstract => .fault .trapEL2Range
    | .likeTPM => if s.ctx.a32EL2 then .fault (.hypTrap 0x03) else .fault (.trapA64 .el2 0x03)

/-! ### The data of an access -/

/-- `ReadValue` of a content (R115): a draw in each UNKNOWN bit, 0 in a RES0 bit that holds no state, else the bit. -/
def readValue (c : Impl) (r : EvReg) (drawn : Word) : Word :=
  (drawn &&& r.unknown) ||| (r.value &&& keepMask c &&& ~~~r.unknown)

/-- The content that `WriteValue` leaves (R116). -/
def writtenReg (c : Impl) (v : Word) : EvReg := ⟨v &&& keepMask c, writtenUnknown c v⟩

/-- The access is over: `pc <- pc + 4` (R121), and the next access draws anew (D7, D26). -/
def State.advance (s : State) : State := { s with pc := s.pc + 4, draws := s.draws + 1 }

/-- The transfer of an access in range (R100 stage 5, R113, R114). -/
def State.transfer (s : State) (k : Kind) (n : Fin 31) (t : BitVec 4) : State :=
  match k with
  | .mrc => s.writeX t (readValue s.impl (s.reg n) (Config.unknownBits s.draws))
  | .mcr => s.setReg n (writtenReg s.impl (s.readX t))

/-- RAZ/WI (R111): a read gives zero, a write does nothing. -/
def State.razWi (s : State) (k : Kind) (t : BitVec 4) : State :=
  match k with
  | .mrc => s.writeX t 0
  | .mcr => s

/-- Stage 5: the outcome is performed (R100). -/
def State.perform (s : State) (k : Kind) (n : Fin 31) (t : BitVec 4) :
    Behaviour → Host.Outcome State Fault Refusal
  | .inRange => .next (s.transfer k n t).advance
  | .razWi => .next (s.razWi k t).advance
  | .nop => .next s.advance
  | .raise r => s.takeException r

/-- The outcome of the access `(kind, n)` made now: chosen among those the rules admit. -/
def State.behaviour (s : State) (k : Kind) (n : Fin 31) : Behaviour :=
  chooseBehaviour s.draws (accessBehaviours s.impl s.ctx k n)

/-- The direct access `(kind, n, t)` (R100, R113, R114), after the two restrictions on its form (R119, R120). -/
def accessRegister (k : Kind) (n : Fin 31) (cond t : BitVec 4) (s : State) : Host.Outcome State Fault Refusal :=
  if conditionAdmitted cond then
    if registerAdmitted t then s.perform k n t (s.behaviour k n)
    else .refused .rtIsFifteen
  else .refused .conditionNotAlways

end Sys2Proof.Machine
end

