-- ==== Sys2Proof/Machine/A32Read.lean ====
section
/-! DEFINITION. The meanings of the A32 `MRC` rows (40_sysreg_access.md R113), n = 0..30: one definition per row,
each one line over the shared access operation. The condition field is an operand (R120). -/

namespace Sys2Proof.Machine

/-- A32 `MRC PMEVTYPER<0>` (R113). -/
def execA32MrcPmevtyper0 (cond rt : BitVec 4) (s : State) : Host.Outcome State Fault Refusal :=
  accessRegister .mrc 0 cond rt s

/-- A32 `MRC PMEVTYPER<1>` (R113). -/
def execA32MrcPmevtyper1 (cond rt : BitVec 4) (s : State) : Host.Outcome State Fault Refusal :=
  accessRegister .mrc 1 cond rt s

/-- A32 `MRC PMEVTYPER<2>` (R113). -/
def execA32MrcPmevtyper2 (cond rt : BitVec 4) (s : State) : Host.Outcome State Fault Refusal :=
  accessRegister .mrc 2 cond rt s

/-- A32 `MRC PMEVTYPER<3>` (R113). -/
def execA32MrcPmevtyper3 (cond rt : BitVec 4) (s : State) : Host.Outcome State Fault Refusal :=
  accessRegister .mrc 3 cond rt s

/-- A32 `MRC PMEVTYPER<4>` (R113). -/
def execA32MrcPmevtyper4 (cond rt : BitVec 4) (s : State) : Host.Outcome State Fault Refusal :=
  accessRegister .mrc 4 cond rt s

/-- A32 `MRC PMEVTYPER<5>` (R113). -/
def execA32MrcPmevtyper5 (cond rt : BitVec 4) (s : State) : Host.Outcome State Fault Refusal :=
  accessRegister .mrc 5 cond rt s

/-- A32 `MRC PMEVTYPER<6>` (R113). -/
def execA32MrcPmevtyper6 (cond rt : BitVec 4) (s : State) : Host.Outcome State Fault Refusal :=
  accessRegister .mrc 6 cond rt s

/-- A32 `MRC PMEVTYPER<7>` (R113). -/
def execA32MrcPmevtyper7 (cond rt : BitVec 4) (s : State) : Host.Outcome State Fault Refusal :=
  accessRegister .mrc 7 cond rt s

/-- A32 `MRC PMEVTYPER<8>` (R113). -/
def execA32MrcPmevtyper8 (cond rt : BitVec 4) (s : State) : Host.Outcome State Fault Refusal :=
  accessRegister .mrc 8 cond rt s

/-- A32 `MRC PMEVTYPER<9>` (R113). -/
def execA32MrcPmevtyper9 (cond rt : BitVec 4) (s : State) : Host.Outcome State Fault Refusal :=
  accessRegister .mrc 9 cond rt s

/-- A32 `MRC PMEVTYPER<10>` (R113). -/
def execA32MrcPmevtyper10 (cond rt : BitVec 4) (s : State) : Host.Outcome State Fault Refusal :=
  accessRegister .mrc 10 cond rt s

/-- A32 `MRC PMEVTYPER<11>` (R113). -/
def execA32MrcPmevtyper11 (cond rt : BitVec 4) (s : State) : Host.Outcome State Fault Refusal :=
  accessRegister .mrc 11 cond rt s

/-- A32 `MRC PMEVTYPER<12>` (R113). -/
def execA32MrcPmevtyper12 (cond rt : BitVec 4) (s : State) : Host.Outcome State Fault Refusal :=
  accessRegister .mrc 12 cond rt s

/-- A32 `MRC PMEVTYPER<13>` (R113). -/
def execA32MrcPmevtyper13 (cond rt : BitVec 4) (s : State) : Host.Outcome State Fault Refusal :=
  accessRegister .mrc 13 cond rt s

/-- A32 `MRC PMEVTYPER<14>` (R113). -/
def execA32MrcPmevtyper14 (cond rt : BitVec 4) (s : State) : Host.Outcome State Fault Refusal :=
  accessRegister .mrc 14 cond rt s

/-- A32 `MRC PMEVTYPER<15>` (R113). -/
def execA32MrcPmevtyper15 (cond rt : BitVec 4) (s : State) : Host.Outcome State Fault Refusal :=
  accessRegister .mrc 15 cond rt s

/-- A32 `MRC PMEVTYPER<16>` (R113). -/
def execA32MrcPmevtyper16 (cond rt : BitVec 4) (s : State) : Host.Outcome State Fault Refusal :=
  accessRegister .mrc 16 cond rt s

/-- A32 `MRC PMEVTYPER<17>` (R113). -/
def execA32MrcPmevtyper17 (cond rt : BitVec 4) (s : State) : Host.Outcome State Fault Refusal :=
  accessRegister .mrc 17 cond rt s

/-- A32 `MRC PMEVTYPER<18>` (R113). -/
def execA32MrcPmevtyper18 (cond rt : BitVec 4) (s : State) : Host.Outcome State Fault Refusal :=
  accessRegister .mrc 18 cond rt s

/-- A32 `MRC PMEVTYPER<19>` (R113). -/
def execA32MrcPmevtyper19 (cond rt : BitVec 4) (s : State) : Host.Outcome State Fault Refusal :=
  accessRegister .mrc 19 cond rt s

/-- A32 `MRC PMEVTYPER<20>` (R113). -/
def execA32MrcPmevtyper20 (cond rt : BitVec 4) (s : State) : Host.Outcome State Fault Refusal :=
  accessRegister .mrc 20 cond rt s

/-- A32 `MRC PMEVTYPER<21>` (R113). -/
def execA32MrcPmevtyper21 (cond rt : BitVec 4) (s : State) : Host.Outcome State Fault Refusal :=
  accessRegister .mrc 21 cond rt s

/-- A32 `MRC PMEVTYPER<22>` (R113). -/
def execA32MrcPmevtyper22 (cond rt : BitVec 4) (s : State) : Host.Outcome State Fault Refusal :=
  accessRegister .mrc 22 cond rt s

/-- A32 `MRC PMEVTYPER<23>` (R113). -/
def execA32MrcPmevtyper23 (cond rt : BitVec 4) (s : State) : Host.Outcome State Fault Refusal :=
  accessRegister .mrc 23 cond rt s

/-- A32 `MRC PMEVTYPER<24>` (R113). -/
def execA32MrcPmevtyper24 (cond rt : BitVec 4) (s : State) : Host.Outcome State Fault Refusal :=
  accessRegister .mrc 24 cond rt s

/-- A32 `MRC PMEVTYPER<25>` (R113). -/
def execA32MrcPmevtyper25 (cond rt : BitVec 4) (s : State) : Host.Outcome State Fault Refusal :=
  accessRegister .mrc 25 cond rt s

/-- A32 `MRC PMEVTYPER<26>` (R113). -/
def execA32MrcPmevtyper26 (cond rt : BitVec 4) (s : State) : Host.Outcome State Fault Refusal :=
  accessRegister .mrc 26 cond rt s

/-- A32 `MRC PMEVTYPER<27>` (R113). -/
def execA32MrcPmevtyper27 (cond rt : BitVec 4) (s : State) : Host.Outcome State Fault Refusal :=
  accessRegister .mrc 27 cond rt s

/-- A32 `MRC PMEVTYPER<28>` (R113). -/
def execA32MrcPmevtyper28 (cond rt : BitVec 4) (s : State) : Host.Outcome State Fault Refusal :=
  accessRegister .mrc 28 cond rt s

/-- A32 `MRC PMEVTYPER<29>` (R113). -/
def execA32MrcPmevtyper29 (cond rt : BitVec 4) (s : State) : Host.Outcome State Fault Refusal :=
  accessRegister .mrc 29 cond rt s

/-- A32 `MRC PMEVTYPER<30>` (R113). -/
def execA32MrcPmevtyper30 (cond rt : BitVec 4) (s : State) : Host.Outcome State Fault Refusal :=
  accessRegister .mrc 30 cond rt s

end Sys2Proof.Machine
end

