-- ==== Sys2Proof/Machine/A32Write.lean ====
section
/-! DEFINITION. The meanings of the A32 `MCR` rows (40_sysreg_access.md R114), n = 0..30: one definition per row,
each one line over the shared access operation. The condition field is an operand (R120). -/

namespace Sys2Proof.Machine

/-- A32 `MCR PMEVTYPER<0>` (R114). -/
def execA32McrPmevtyper0 (cond rt : BitVec 4) (s : State) : Host.Outcome State Fault Refusal :=
  accessRegister .mcr 0 cond rt s

/-- A32 `MCR PMEVTYPER<1>` (R114). -/
def execA32McrPmevtyper1 (cond rt : BitVec 4) (s : State) : Host.Outcome State Fault Refusal :=
  accessRegister .mcr 1 cond rt s

/-- A32 `MCR PMEVTYPER<2>` (R114). -/
def execA32McrPmevtyper2 (cond rt : BitVec 4) (s : State) : Host.Outcome State Fault Refusal :=
  accessRegister .mcr 2 cond rt s

/-- A32 `MCR PMEVTYPER<3>` (R114). -/
def execA32McrPmevtyper3 (cond rt : BitVec 4) (s : State) : Host.Outcome State Fault Refusal :=
  accessRegister .mcr 3 cond rt s

/-- A32 `MCR PMEVTYPER<4>` (R114). -/
def execA32McrPmevtyper4 (cond rt : BitVec 4) (s : State) : Host.Outcome State Fault Refusal :=
  accessRegister .mcr 4 cond rt s

/-- A32 `MCR PMEVTYPER<5>` (R114). -/
def execA32McrPmevtyper5 (cond rt : BitVec 4) (s : State) : Host.Outcome State Fault Refusal :=
  accessRegister .mcr 5 cond rt s

/-- A32 `MCR PMEVTYPER<6>` (R114). -/
def execA32McrPmevtyper6 (cond rt : BitVec 4) (s : State) : Host.Outcome State Fault Refusal :=
  accessRegister .mcr 6 cond rt s

/-- A32 `MCR PMEVTYPER<7>` (R114). -/
def execA32McrPmevtyper7 (cond rt : BitVec 4) (s : State) : Host.Outcome State Fault Refusal :=
  accessRegister .mcr 7 cond rt s

/-- A32 `MCR PMEVTYPER<8>` (R114). -/
def execA32McrPmevtyper8 (cond rt : BitVec 4) (s : State) : Host.Outcome State Fault Refusal :=
  accessRegister .mcr 8 cond rt s

/-- A32 `MCR PMEVTYPER<9>` (R114). -/
def execA32McrPmevtyper9 (cond rt : BitVec 4) (s : State) : Host.Outcome State Fault Refusal :=
  accessRegister .mcr 9 cond rt s

/-- A32 `MCR PMEVTYPER<10>` (R114). -/
def execA32McrPmevtyper10 (cond rt : BitVec 4) (s : State) : Host.Outcome State Fault Refusal :=
  accessRegister .mcr 10 cond rt s

/-- A32 `MCR PMEVTYPER<11>` (R114). -/
def execA32McrPmevtyper11 (cond rt : BitVec 4) (s : State) : Host.Outcome State Fault Refusal :=
  accessRegister .mcr 11 cond rt s

/-- A32 `MCR PMEVTYPER<12>` (R114). -/
def execA32McrPmevtyper12 (cond rt : BitVec 4) (s : State) : Host.Outcome State Fault Refusal :=
  accessRegister .mcr 12 cond rt s

/-- A32 `MCR PMEVTYPER<13>` (R114). -/
def execA32McrPmevtyper13 (cond rt : BitVec 4) (s : State) : Host.Outcome State Fault Refusal :=
  accessRegister .mcr 13 cond rt s

/-- A32 `MCR PMEVTYPER<14>` (R114). -/
def execA32McrPmevtyper14 (cond rt : BitVec 4) (s : State) : Host.Outcome State Fault Refusal :=
  accessRegister .mcr 14 cond rt s

/-- A32 `MCR PMEVTYPER<15>` (R114). -/
def execA32McrPmevtyper15 (cond rt : BitVec 4) (s : State) : Host.Outcome State Fault Refusal :=
  accessRegister .mcr 15 cond rt s

/-- A32 `MCR PMEVTYPER<16>` (R114). -/
def execA32McrPmevtyper16 (cond rt : BitVec 4) (s : State) : Host.Outcome State Fault Refusal :=
  accessRegister .mcr 16 cond rt s

/-- A32 `MCR PMEVTYPER<17>` (R114). -/
def execA32McrPmevtyper17 (cond rt : BitVec 4) (s : State) : Host.Outcome State Fault Refusal :=
  accessRegister .mcr 17 cond rt s

/-- A32 `MCR PMEVTYPER<18>` (R114). -/
def execA32McrPmevtyper18 (cond rt : BitVec 4) (s : State) : Host.Outcome State Fault Refusal :=
  accessRegister .mcr 18 cond rt s

/-- A32 `MCR PMEVTYPER<19>` (R114). -/
def execA32McrPmevtyper19 (cond rt : BitVec 4) (s : State) : Host.Outcome State Fault Refusal :=
  accessRegister .mcr 19 cond rt s

/-- A32 `MCR PMEVTYPER<20>` (R114). -/
def execA32McrPmevtyper20 (cond rt : BitVec 4) (s : State) : Host.Outcome State Fault Refusal :=
  accessRegister .mcr 20 cond rt s

/-- A32 `MCR PMEVTYPER<21>` (R114). -/
def execA32McrPmevtyper21 (cond rt : BitVec 4) (s : State) : Host.Outcome State Fault Refusal :=
  accessRegister .mcr 21 cond rt s

/-- A32 `MCR PMEVTYPER<22>` (R114). -/
def execA32McrPmevtyper22 (cond rt : BitVec 4) (s : State) : Host.Outcome State Fault Refusal :=
  accessRegister .mcr 22 cond rt s

/-- A32 `MCR PMEVTYPER<23>` (R114). -/
def execA32McrPmevtyper23 (cond rt : BitVec 4) (s : State) : Host.Outcome State Fault Refusal :=
  accessRegister .mcr 23 cond rt s

/-- A32 `MCR PMEVTYPER<24>` (R114). -/
def execA32McrPmevtyper24 (cond rt : BitVec 4) (s : State) : Host.Outcome State Fault Refusal :=
  accessRegister .mcr 24 cond rt s

/-- A32 `MCR PMEVTYPER<25>` (R114). -/
def execA32McrPmevtyper25 (cond rt : BitVec 4) (s : State) : Host.Outcome State Fault Refusal :=
  accessRegister .mcr 25 cond rt s

/-- A32 `MCR PMEVTYPER<26>` (R114). -/
def execA32McrPmevtyper26 (cond rt : BitVec 4) (s : State) : Host.Outcome State Fault Refusal :=
  accessRegister .mcr 26 cond rt s

/-- A32 `MCR PMEVTYPER<27>` (R114). -/
def execA32McrPmevtyper27 (cond rt : BitVec 4) (s : State) : Host.Outcome State Fault Refusal :=
  accessRegister .mcr 27 cond rt s

/-- A32 `MCR PMEVTYPER<28>` (R114). -/
def execA32McrPmevtyper28 (cond rt : BitVec 4) (s : State) : Host.Outcome State Fault Refusal :=
  accessRegister .mcr 28 cond rt s

/-- A32 `MCR PMEVTYPER<29>` (R114). -/
def execA32McrPmevtyper29 (cond rt : BitVec 4) (s : State) : Host.Outcome State Fault Refusal :=
  accessRegister .mcr 29 cond rt s

/-- A32 `MCR PMEVTYPER<30>` (R114). -/
def execA32McrPmevtyper30 (cond rt : BitVec 4) (s : State) : Host.Outcome State Fault Refusal :=
  accessRegister .mcr 30 cond rt s

end Sys2Proof.Machine
end

