-- ==== Sys2Proof/Machine/T32Read.lean ====
section
/-! DEFINITION. The meanings of the T32 `MRC` rows (40_sysreg_access.md R113), n = 0..30: one definition per row,
each one line over the shared access operation. A T32 form has no condition field (R86). -/

namespace Sys2Proof.Machine

/-- T32 `MRC PMEVTYPER<0>` (R113). -/
def execT32MrcPmevtyper0 (rt : BitVec 4) (s : State) : Host.Outcome State Fault Refusal :=
  accessRegister .mrc 0 condAlways rt s

/-- T32 `MRC PMEVTYPER<1>` (R113). -/
def execT32MrcPmevtyper1 (rt : BitVec 4) (s : State) : Host.Outcome State Fault Refusal :=
  accessRegister .mrc 1 condAlways rt s

/-- T32 `MRC PMEVTYPER<2>` (R113). -/
def execT32MrcPmevtyper2 (rt : BitVec 4) (s : State) : Host.Outcome State Fault Refusal :=
  accessRegister .mrc 2 condAlways rt s

/-- T32 `MRC PMEVTYPER<3>` (R113). -/
def execT32MrcPmevtyper3 (rt : BitVec 4) (s : State) : Host.Outcome State Fault Refusal :=
  accessRegister .mrc 3 condAlways rt s

/-- T32 `MRC PMEVTYPER<4>` (R113). -/
def execT32MrcPmevtyper4 (rt : BitVec 4) (s : State) : Host.Outcome State Fault Refusal :=
  accessRegister .mrc 4 condAlways rt s

/-- T32 `MRC PMEVTYPER<5>` (R113). -/
def execT32MrcPmevtyper5 (rt : BitVec 4) (s : State) : Host.Outcome State Fault Refusal :=
  accessRegister .mrc 5 condAlways rt s

/-- T32 `MRC PMEVTYPER<6>` (R113). -/
def execT32MrcPmevtyper6 (rt : BitVec 4) (s : State) : Host.Outcome State Fault Refusal :=
  accessRegister .mrc 6 condAlways rt s

/-- T32 `MRC PMEVTYPER<7>` (R113). -/
def execT32MrcPmevtyper7 (rt : BitVec 4) (s : State) : Host.Outcome State Fault Refusal :=
  accessRegister .mrc 7 condAlways rt s

/-- T32 `MRC PMEVTYPER<8>` (R113). -/
def execT32MrcPmevtyper8 (rt : BitVec 4) (s : State) : Host.Outcome State Fault Refusal :=
  accessRegister .mrc 8 condAlways rt s

/-- T32 `MRC PMEVTYPER<9>` (R113). -/
def execT32MrcPmevtyper9 (rt : BitVec 4) (s : State) : Host.Outcome State Fault Refusal :=
  accessRegister .mrc 9 condAlways rt s

/-- T32 `MRC PMEVTYPER<10>` (R113). -/
def execT32MrcPmevtyper10 (rt : BitVec 4) (s : State) : Host.Outcome State Fault Refusal :=
  accessRegister .mrc 10 condAlways rt s

/-- T32 `MRC PMEVTYPER<11>` (R113). -/
def execT32MrcPmevtyper11 (rt : BitVec 4) (s : State) : Host.Outcome State Fault Refusal :=
  accessRegister .mrc 11 condAlways rt s

/-- T32 `MRC PMEVTYPER<12>` (R113). -/
def execT32MrcPmevtyper12 (rt : BitVec 4) (s : State) : Host.Outcome State Fault Refusal :=
  accessRegister .mrc 12 condAlways rt s

/-- T32 `MRC PMEVTYPER<13>` (R113). -/
def execT32MrcPmevtyper13 (rt : BitVec 4) (s : State) : Host.Outcome State Fault Refusal :=
  accessRegister .mrc 13 condAlways rt s

/-- T32 `MRC PMEVTYPER<14>` (R113). -/
def execT32MrcPmevtyper14 (rt : BitVec 4) (s : State) : Host.Outcome State Fault Refusal :=
  accessRegister .mrc 14 condAlways rt s

/-- T32 `MRC PMEVTYPER<15>` (R113). -/
def execT32MrcPmevtyper15 (rt : BitVec 4) (s : State) : Host.Outcome State Fault Refusal :=
  accessRegister .mrc 15 condAlways rt s

/-- T32 `MRC PMEVTYPER<16>` (R113). -/
def execT32MrcPmevtyper16 (rt : BitVec 4) (s : State) : Host.Outcome State Fault Refusal :=
  accessRegister .mrc 16 condAlways rt s

/-- T32 `MRC PMEVTYPER<17>` (R113). -/
def execT32MrcPmevtyper17 (rt : BitVec 4) (s : State) : Host.Outcome State Fault Refusal :=
  accessRegister .mrc 17 condAlways rt s

/-- T32 `MRC PMEVTYPER<18>` (R113). -/
def execT32MrcPmevtyper18 (rt : BitVec 4) (s : State) : Host.Outcome State Fault Refusal :=
  accessRegister .mrc 18 condAlways rt s

/-- T32 `MRC PMEVTYPER<19>` (R113). -/
def execT32MrcPmevtyper19 (rt : BitVec 4) (s : State) : Host.Outcome State Fault Refusal :=
  accessRegister .mrc 19 condAlways rt s

/-- T32 `MRC PMEVTYPER<20>` (R113). -/
def execT32MrcPmevtyper20 (rt : BitVec 4) (s : State) : Host.Outcome State Fault Refusal :=
  accessRegister .mrc 20 condAlways rt s

/-- T32 `MRC PMEVTYPER<21>` (R113). -/
def execT32MrcPmevtyper21 (rt : BitVec 4) (s : State) : Host.Outcome State Fault Refusal :=
  accessRegister .mrc 21 condAlways rt s

/-- T32 `MRC PMEVTYPER<22>` (R113). -/
def execT32MrcPmevtyper22 (rt : BitVec 4) (s : State) : Host.Outcome State Fault Refusal :=
  accessRegister .mrc 22 condAlways rt s

/-- T32 `MRC PMEVTYPER<23>` (R113). -/
def execT32MrcPmevtyper23 (rt : BitVec 4) (s : State) : Host.Outcome State Fault Refusal :=
  accessRegister .mrc 23 condAlways rt s

/-- T32 `MRC PMEVTYPER<24>` (R113). -/
def execT32MrcPmevtyper24 (rt : BitVec 4) (s : State) : Host.Outcome State Fault Refusal :=
  accessRegister .mrc 24 condAlways rt s

/-- T32 `MRC PMEVTYPER<25>` (R113). -/
def execT32MrcPmevtyper25 (rt : BitVec 4) (s : State) : Host.Outcome State Fault Refusal :=
  accessRegister .mrc 25 condAlways rt s

/-- T32 `MRC PMEVTYPER<26>` (R113). -/
def execT32MrcPmevtyper26 (rt : BitVec 4) (s : State) : Host.Outcome State Fault Refusal :=
  accessRegister .mrc 26 condAlways rt s

/-- T32 `MRC PMEVTYPER<27>` (R113). -/
def execT32MrcPmevtyper27 (rt : BitVec 4) (s : State) : Host.Outcome State Fault Refusal :=
  accessRegister .mrc 27 condAlways rt s

/-- T32 `MRC PMEVTYPER<28>` (R113). -/
def execT32MrcPmevtyper28 (rt : BitVec 4) (s : State) : Host.Outcome State Fault Refusal :=
  accessRegister .mrc 28 condAlways rt s

/-- T32 `MRC PMEVTYPER<29>` (R113). -/
def execT32MrcPmevtyper29 (rt : BitVec 4) (s : State) : Host.Outcome State Fault Refusal :=
  accessRegister .mrc 29 condAlways rt s

/-- T32 `MRC PMEVTYPER<30>` (R113). -/
def execT32MrcPmevtyper30 (rt : BitVec 4) (s : State) : Host.Outcome State Fault Refusal :=
  accessRegister .mrc 30 condAlways rt s

end Sys2Proof.Machine
end

