-- ==== Sys2Proof/Machine/T32Write.lean ====
section
/-! DEFINITION. The meanings of the T32 `MCR` rows (40_sysreg_access.md R114), n = 0..30: one definition per row,
each one line over the shared access operation. A T32 form has no condition field (R86). -/

namespace Sys2Proof.Machine

/-- T32 `MCR PMEVTYPER<0>` (R114). -/
def execT32McrPmevtyper0 (rt : BitVec 4) (s : State) : Host.Outcome State Fault Refusal :=
  accessRegister .mcr 0 condAlways rt s

/-- T32 `MCR PMEVTYPER<1>` (R114). -/
def execT32McrPmevtyper1 (rt : BitVec 4) (s : State) : Host.Outcome State Fault Refusal :=
  accessRegister .mcr 1 condAlways rt s

/-- T32 `MCR PMEVTYPER<2>` (R114). -/
def execT32McrPmevtyper2 (rt : BitVec 4) (s : State) : Host.Outcome State Fault Refusal :=
  accessRegister .mcr 2 condAlways rt s

/-- T32 `MCR PMEVTYPER<3>` (R114). -/
def execT32McrPmevtyper3 (rt : BitVec 4) (s : State) : Host.Outcome State Fault Refusal :=
  accessRegister .mcr 3 condAlways rt s

/-- T32 `MCR PMEVTYPER<4>` (R114). -/
def execT32McrPmevtyper4 (rt : BitVec 4) (s : State) : Host.Outcome State Fault Refusal :=
  accessRegister .mcr 4 condAlways rt s

/-- T32 `MCR PMEVTYPER<5>` (R114). -/
def execT32McrPmevtyper5 (rt : BitVec 4) (s : State) : Host.Outcome State Fault Refusal :=
  accessRegister .mcr 5 condAlways rt s

/-- T32 `MCR PMEVTYPER<6>` (R114). -/
def execT32McrPmevtyper6 (rt : BitVec 4) (s : State) : Host.Outcome State Fault Refusal :=
  accessRegister .mcr 6 condAlways rt s

/-- T32 `MCR PMEVTYPER<7>` (R114). -/
def execT32McrPmevtyper7 (rt : BitVec 4) (s : State) : Host.Outcome State Fault Refusal :=
  accessRegister .mcr 7 condAlways rt s

/-- T32 `MCR PMEVTYPER<8>` (R114). -/
def execT32McrPmevtyper8 (rt : BitVec 4) (s : State) : Host.Outcome State Fault Refusal :=
  accessRegister .mcr 8 condAlways rt s

/-- T32 `MCR PMEVTYPER<9>` (R114). -/
def execT32McrPmevtyper9 (rt : BitVec 4) (s : State) : Host.Outcome State Fault Refusal :=
  accessRegister .mcr 9 condAlways rt s

/-- T32 `MCR PMEVTYPER<10>` (R114). -/
def execT32McrPmevtyper10 (rt : BitVec 4) (s : State) : Host.Outcome State Fault Refusal :=
  accessRegister .mcr 10 condAlways rt s

/-- T32 `MCR PMEVTYPER<11>` (R114). -/
def execT32McrPmevtyper11 (rt : BitVec 4) (s : State) : Host.Outcome State Fault Refusal :=
  accessRegister .mcr 11 condAlways rt s

/-- T32 `MCR PMEVTYPER<12>` (R114). -/
def execT32McrPmevtyper12 (rt : BitVec 4) (s : State) : Host.Outcome State Fault Refusal :=
  accessRegister .mcr 12 condAlways rt s

/-- T32 `MCR PMEVTYPER<13>` (R114). -/
def execT32McrPmevtyper13 (rt : BitVec 4) (s : State) : Host.Outcome State Fault Refusal :=
  accessRegister .mcr 13 condAlways rt s

/-- T32 `MCR PMEVTYPER<14>` (R114). -/
def execT32McrPmevtyper14 (rt : BitVec 4) (s : State) : Host.Outcome State Fault Refusal :=
  accessRegister .mcr 14 condAlways rt s

/-- T32 `MCR PMEVTYPER<15>` (R114). -/
def execT32McrPmevtyper15 (rt : BitVec 4) (s : State) : Host.Outcome State Fault Refusal :=
  accessRegister .mcr 15 condAlways rt s

/-- T32 `MCR PMEVTYPER<16>` (R114). -/
def execT32McrPmevtyper16 (rt : BitVec 4) (s : State) : Host.Outcome State Fault Refusal :=
  accessRegister .mcr 16 condAlways rt s

/-- T32 `MCR PMEVTYPER<17>` (R114). -/
def execT32McrPmevtyper17 (rt : BitVec 4) (s : State) : Host.Outcome State Fault Refusal :=
  accessRegister .mcr 17 condAlways rt s

/-- T32 `MCR PMEVTYPER<18>` (R114). -/
def execT32McrPmevtyper18 (rt : BitVec 4) (s : State) : Host.Outcome State Fault Refusal :=
  accessRegister .mcr 18 condAlways rt s

/-- T32 `MCR PMEVTYPER<19>` (R114). -/
def execT32McrPmevtyper19 (rt : BitVec 4) (s : State) : Host.Outcome State Fault Refusal :=
  accessRegister .mcr 19 condAlways rt s

/-- T32 `MCR PMEVTYPER<20>` (R114). -/
def execT32McrPmevtyper20 (rt : BitVec 4) (s : State) : Host.Outcome State Fault Refusal :=
  accessRegister .mcr 20 condAlways rt s

/-- T32 `MCR PMEVTYPER<21>` (R114). -/
def execT32McrPmevtyper21 (rt : BitVec 4) (s : State) : Host.Outcome State Fault Refusal :=
  accessRegister .mcr 21 condAlways rt s

/-- T32 `MCR PMEVTYPER<22>` (R114). -/
def execT32McrPmevtyper22 (rt : BitVec 4) (s : State) : Host.Outcome State Fault Refusal :=
  accessRegister .mcr 22 condAlways rt s

/-- T32 `MCR PMEVTYPER<23>` (R114). -/
def execT32McrPmevtyper23 (rt : BitVec 4) (s : State) : Host.Outcome State Fault Refusal :=
  accessRegister .mcr 23 condAlways rt s

/-- T32 `MCR PMEVTYPER<24>` (R114). -/
def execT32McrPmevtyper24 (rt : BitVec 4) (s : State) : Host.Outcome State Fault Refusal :=
  accessRegister .mcr 24 condAlways rt s

/-- T32 `MCR PMEVTYPER<25>` (R114). -/
def execT32McrPmevtyper25 (rt : BitVec 4) (s : State) : Host.Outcome State Fault Refusal :=
  accessRegister .mcr 25 condAlways rt s

/-- T32 `MCR PMEVTYPER<26>` (R114). -/
def execT32McrPmevtyper26 (rt : BitVec 4) (s : State) : Host.Outcome State Fault Refusal :=
  accessRegister .mcr 26 condAlways rt s

/-- T32 `MCR PMEVTYPER<27>` (R114). -/
def execT32McrPmevtyper27 (rt : BitVec 4) (s : State) : Host.Outcome State Fault Refusal :=
  accessRegister .mcr 27 condAlways rt s

/-- T32 `MCR PMEVTYPER<28>` (R114). -/
def execT32McrPmevtyper28 (rt : BitVec 4) (s : State) : Host.Outcome State Fault Refusal :=
  accessRegister .mcr 28 condAlways rt s

/-- T32 `MCR PMEVTYPER<29>` (R114). -/
def execT32McrPmevtyper29 (rt : BitVec 4) (s : State) : Host.Outcome State Fault Refusal :=
  accessRegister .mcr 29 condAlways rt s

/-- T32 `MCR PMEVTYPER<30>` (R114). -/
def execT32McrPmevtyper30 (rt : BitVec 4) (s : State) : Host.Outcome State Fault Refusal :=
  accessRegister .mcr 30 condAlways rt s

end Sys2Proof.Machine
end

