-- ==== Sys2Proof/Machine/Dispatch.lean ====
section
/-! DEFINITION. One arm per instruction, each one direct call of its meaning. -/

namespace Sys2Proof.Machine

def exec (i : Instr) (s : State) : Host.Outcome State Fault Refusal :=
  match i with
  | .a32MrcPmevtyper0 cond rt => Sys2Proof.Machine.execA32MrcPmevtyper0 cond rt s
  | .a32MrcPmevtyper1 cond rt => Sys2Proof.Machine.execA32MrcPmevtyper1 cond rt s
  | .a32MrcPmevtyper2 cond rt => Sys2Proof.Machine.execA32MrcPmevtyper2 cond rt s
  | .a32MrcPmevtyper3 cond rt => Sys2Proof.Machine.execA32MrcPmevtyper3 cond rt s
  | .a32MrcPmevtyper4 cond rt => Sys2Proof.Machine.execA32MrcPmevtyper4 cond rt s
  | .a32MrcPmevtyper5 cond rt => Sys2Proof.Machine.execA32MrcPmevtyper5 cond rt s
  | .a32MrcPmevtyper6 cond rt => Sys2Proof.Machine.execA32MrcPmevtyper6 cond rt s
  | .a32MrcPmevtyper7 cond rt => Sys2Proof.Machine.execA32MrcPmevtyper7 cond rt s
  | .a32MrcPmevtyper8 cond rt => Sys2Proof.Machine.execA32MrcPmevtyper8 cond rt s
  | .a32MrcPmevtyper9 cond rt => Sys2Proof.Machine.execA32MrcPmevtyper9 cond rt s
  | .a32MrcPmevtyper10 cond rt => Sys2Proof.Machine.execA32MrcPmevtyper10 cond rt s
  | .a32MrcPmevtyper11 cond rt => Sys2Proof.Machine.execA32MrcPmevtyper11 cond rt s
  | .a32MrcPmevtyper12 cond rt => Sys2Proof.Machine.execA32MrcPmevtyper12 cond rt s
  | .a32MrcPmevtyper13 cond rt => Sys2Proof.Machine.execA32MrcPmevtyper13 cond rt s
  | .a32MrcPmevtyper14 cond rt => Sys2Proof.Machine.execA32MrcPmevtyper14 cond rt s
  | .a32MrcPmevtyper15 cond rt => Sys2Proof.Machine.execA32MrcPmevtyper15 cond rt s
  | .a32MrcPmevtyper16 cond rt => Sys2Proof.Machine.execA32MrcPmevtyper16 cond rt s
  | .a32MrcPmevtyper17 cond rt => Sys2Proof.Machine.execA32MrcPmevtyper17 cond rt s
  | .a32MrcPmevtyper18 cond rt => Sys2Proof.Machine.execA32MrcPmevtyper18 cond rt s
  | .a32MrcPmevtyper19 cond rt => Sys2Proof.Machine.execA32MrcPmevtyper19 cond rt s
  | .a32MrcPmevtyper20 cond rt => Sys2Proof.Machine.execA32MrcPmevtyper20 cond rt s
  | .a32MrcPmevtyper21 cond rt => Sys2Proof.Machine.execA32MrcPmevtyper21 cond rt s
  | .a32MrcPmevtyper22 cond rt => Sys2Proof.Machine.execA32MrcPmevtyper22 cond rt s
  | .a32MrcPmevtyper23 cond rt => Sys2Proof.Machine.execA32MrcPmevtyper23 cond rt s
  | .a32MrcPmevtyper24 cond rt => Sys2Proof.Machine.execA32MrcPmevtyper24 cond rt s
  | .a32MrcPmevtyper25 cond rt => Sys2Proof.Machine.execA32MrcPmevtyper25 cond rt s
  | .a32MrcPmevtyper26 cond rt => Sys2Proof.Machine.execA32MrcPmevtyper26 cond rt s
  | .a32MrcPmevtyper27 cond rt => Sys2Proof.Machine.execA32MrcPmevtyper27 cond rt s
  | .a32MrcPmevtyper28 cond rt => Sys2Proof.Machine.execA32MrcPmevtyper28 cond rt s
  | .a32MrcPmevtyper29 cond rt => Sys2Proof.Machine.execA32MrcPmevtyper29 cond rt s
  | .a32MrcPmevtyper30 cond rt => Sys2Proof.Machine.execA32MrcPmevtyper30 cond rt s
  | .a32McrPmevtyper0 cond rt => Sys2Proof.Machine.execA32McrPmevtyper0 cond rt s
  | .a32McrPmevtyper1 cond rt => Sys2Proof.Machine.execA32McrPmevtyper1 cond rt s
  | .a32McrPmevtyper2 cond rt => Sys2Proof.Machine.execA32McrPmevtyper2 cond rt s
  | .a32McrPmevtyper3 cond rt => Sys2Proof.Machine.execA32McrPmevtyper3 cond rt s
  | .a32McrPmevtyper4 cond rt => Sys2Proof.Machine.execA32McrPmevtyper4 cond rt s
  | .a32McrPmevtyper5 cond rt => Sys2Proof.Machine.execA32McrPmevtyper5 cond rt s
  | .a32McrPmevtyper6 cond rt => Sys2Proof.Machine.execA32McrPmevtyper6 cond rt s
  | .a32McrPmevtyper7 cond rt => Sys2Proof.Machine.execA32McrPmevtyper7 cond rt s
  | .a32McrPmevtyper8 cond rt => Sys2Proof.Machine.execA32McrPmevtyper8 cond rt s
  | .a32McrPmevtyper9 cond rt => Sys2Proof.Machine.execA32McrPmevtyper9 cond rt s
  | .a32McrPmevtyper10 cond rt => Sys2Proof.Machine.execA32McrPmevtyper10 cond rt s
  | .a32McrPmevtyper11 cond rt => Sys2Proof.Machine.execA32McrPmevtyper11 cond rt s
  | .a32McrPmevtyper12 cond rt => Sys2Proof.Machine.execA32McrPmevtyper12 cond rt s
  | .a32McrPmevtyper13 cond rt => Sys2Proof.Machine.execA32McrPmevtyper13 cond rt s
  | .a32McrPmevtyper14 cond rt => Sys2Proof.Machine.execA32McrPmevtyper14 cond rt s
  | .a32McrPmevtyper15 cond rt => Sys2Proof.Machine.execA32McrPmevtyper15 cond rt s
  | .a32McrPmevtyper16 cond rt => Sys2Proof.Machine.execA32McrPmevtyper16 cond rt s
  | .a32McrPmevtyper17 cond rt => Sys2Proof.Machine.execA32McrPmevtyper17 cond rt s
  | .a32McrPmevtyper18 cond rt => Sys2Proof.Machine.execA32McrPmevtyper18 cond rt s
  | .a32McrPmevtyper19 cond rt => Sys2Proof.Machine.execA32McrPmevtyper19 cond rt s
  | .a32McrPmevtyper20 cond rt => Sys2Proof.Machine.execA32McrPmevtyper20 cond rt s
  | .a32McrPmevtyper21 cond rt => Sys2Proof.Machine.execA32McrPmevtyper21 cond rt s
  | .a32McrPmevtyper22 cond rt => Sys2Proof.Machine.execA32McrPmevtyper22 cond rt s
  | .a32McrPmevtyper23 cond rt => Sys2Proof.Machine.execA32McrPmevtyper23 cond rt s
  | .a32McrPmevtyper24 cond rt => Sys2Proof.Machine.execA32McrPmevtyper24 cond rt s
  | .a32McrPmevtyper25 cond rt => Sys2Proof.Machine.execA32McrPmevtyper25 cond rt s
  | .a32McrPmevtyper26 cond rt => Sys2Proof.Machine.execA32McrPmevtyper26 cond rt s
  | .a32McrPmevtyper27 cond rt => Sys2Proof.Machine.execA32McrPmevtyper27 cond rt s
  | .a32McrPmevtyper28 cond rt => Sys2Proof.Machine.execA32McrPmevtyper28 cond rt s
  | .a32McrPmevtyper29 cond rt => Sys2Proof.Machine.execA32McrPmevtyper29 cond rt s
  | .a32McrPmevtyper30 cond rt => Sys2Proof.Machine.execA32McrPmevtyper30 cond rt s
  | .t32MrcPmevtyper0 rt => Sys2Proof.Machine.execT32MrcPmevtyper0 rt s
  | .t32MrcPmevtyper1 rt => Sys2Proof.Machine.execT32MrcPmevtyper1 rt s
  | .t32MrcPmevtyper2 rt => Sys2Proof.Machine.execT32MrcPmevtyper2 rt s
  | .t32MrcPmevtyper3 rt => Sys2Proof.Machine.execT32MrcPmevtyper3 rt s
  | .t32MrcPmevtyper4 rt => Sys2Proof.Machine.execT32MrcPmevtyper4 rt s
  | .t32MrcPmevtyper5 rt => Sys2Proof.Machine.execT32MrcPmevtyper5 rt s
  | .t32MrcPmevtyper6 rt => Sys2Proof.Machine.execT32MrcPmevtyper6 rt s
  | .t32MrcPmevtyper7 rt => Sys2Proof.Machine.execT32MrcPmevtyper7 rt s
  | .t32MrcPmevtyper8 rt => Sys2Proof.Machine.execT32MrcPmevtyper8 rt s
  | .t32MrcPmevtyper9 rt => Sys2Proof.Machine.execT32MrcPmevtyper9 rt s
  | .t32MrcPmevtyper10 rt => Sys2Proof.Machine.execT32MrcPmevtyper10 rt s
  | .t32MrcPmevtyper11 rt => Sys2Proof.Machine.execT32MrcPmevtyper11 rt s
  | .t32MrcPmevtyper12 rt => Sys2Proof.Machine.execT32MrcPmevtyper12 rt s
  | .t32MrcPmevtyper13 rt => Sys2Proof.Machine.execT32MrcPmevtyper13 rt s
  | .t32MrcPmevtyper14 rt => Sys2Proof.Machine.execT32MrcPmevtyper14 rt s
  | .t32MrcPmevtyper15 rt => Sys2Proof.Machine.execT32MrcPmevtyper15 rt s
  | .t32MrcPmevtyper16 rt => Sys2Proof.Machine.execT32MrcPmevtyper16 rt s
  | .t32MrcPmevtyper17 rt => Sys2Proof.Machine.execT32MrcPmevtyper17 rt s
  | .t32MrcPmevtyper18 rt => Sys2Proof.Machine.execT32MrcPmevtyper18 rt s
  | .t32MrcPmevtyper19 rt => Sys2Proof.Machine.execT32MrcPmevtyper19 rt s
  | .t32MrcPmevtyper20 rt => Sys2Proof.Machine.execT32MrcPmevtyper20 rt s
  | .t32MrcPmevtyper21 rt => Sys2Proof.Machine.execT32MrcPmevtyper21 rt s
  | .t32MrcPmevtyper22 rt => Sys2Proof.Machine.execT32MrcPmevtyper22 rt s
  | .t32MrcPmevtyper23 rt => Sys2Proof.Machine.execT32MrcPmevtyper23 rt s
  | .t32MrcPmevtyper24 rt => Sys2Proof.Machine.execT32MrcPmevtyper24 rt s
  | .t32MrcPmevtyper25 rt => Sys2Proof.Machine.execT32MrcPmevtyper25 rt s
  | .t32MrcPmevtyper26 rt => Sys2Proof.Machine.execT32MrcPmevtyper26 rt s
  | .t32MrcPmevtyper27 rt => Sys2Proof.Machine.execT32MrcPmevtyper27 rt s
  | .t32MrcPmevtyper28 rt => Sys2Proof.Machine.execT32MrcPmevtyper28 rt s
  | .t32MrcPmevtyper29 rt => Sys2Proof.Machine.execT32MrcPmevtyper29 rt s
  | .t32MrcPmevtyper30 rt => Sys2Proof.Machine.execT32MrcPmevtyper30 rt s
  | .t32McrPmevtyper0 rt => Sys2Proof.Machine.execT32McrPmevtyper0 rt s
  | .t32McrPmevtyper1 rt => Sys2Proof.Machine.execT32McrPmevtyper1 rt s
  | .t32McrPmevtyper2 rt => Sys2Proof.Machine.execT32McrPmevtyper2 rt s
  | .t32McrPmevtyper3 rt => Sys2Proof.Machine.execT32McrPmevtyper3 rt s
  | .t32McrPmevtyper4 rt => Sys2Proof.Machine.execT32McrPmevtyper4 rt s
  | .t32McrPmevtyper5 rt => Sys2Proof.Machine.execT32McrPmevtyper5 rt s
  | .t32McrPmevtyper6 rt => Sys2Proof.Machine.execT32McrPmevtyper6 rt s
  | .t32McrPmevtyper7 rt => Sys2Proof.Machine.execT32McrPmevtyper7 rt s
  | .t32McrPmevtyper8 rt => Sys2Proof.Machine.execT32McrPmevtyper8 rt s
  | .t32McrPmevtyper9 rt => Sys2Proof.Machine.execT32McrPmevtyper9 rt s
  | .t32McrPmevtyper10 rt => Sys2Proof.Machine.execT32McrPmevtyper10 rt s
  | .t32McrPmevtyper11 rt => Sys2Proof.Machine.execT32McrPmevtyper11 rt s
  | .t32McrPmevtyper12 rt => Sys2Proof.Machine.execT32McrPmevtyper12 rt s
  | .t32McrPmevtyper13 rt => Sys2Proof.Machine.execT32McrPmevtyper13 rt s
  | .t32McrPmevtyper14 rt => Sys2Proof.Machine.execT32McrPmevtyper14 rt s
  | .t32McrPmevtyper15 rt => Sys2Proof.Machine.execT32McrPmevtyper15 rt s
  | .t32McrPmevtyper16 rt => Sys2Proof.Machine.execT32McrPmevtyper16 rt s
  | .t32McrPmevtyper17 rt => Sys2Proof.Machine.execT32McrPmevtyper17 rt s
  | .t32McrPmevtyper18 rt => Sys2Proof.Machine.execT32McrPmevtyper18 rt s
  | .t32McrPmevtyper19 rt => Sys2Proof.Machine.execT32McrPmevtyper19 rt s
  | .t32McrPmevtyper20 rt => Sys2Proof.Machine.execT32McrPmevtyper20 rt s
  | .t32McrPmevtyper21 rt => Sys2Proof.Machine.execT32McrPmevtyper21 rt s
  | .t32McrPmevtyper22 rt => Sys2Proof.Machine.execT32McrPmevtyper22 rt s
  | .t32McrPmevtyper23 rt => Sys2Proof.Machine.execT32McrPmevtyper23 rt s
  | .t32McrPmevtyper24 rt => Sys2Proof.Machine.execT32McrPmevtyper24 rt s
  | .t32McrPmevtyper25 rt => Sys2Proof.Machine.execT32McrPmevtyper25 rt s
  | .t32McrPmevtyper26 rt => Sys2Proof.Machine.execT32McrPmevtyper26 rt s
  | .t32McrPmevtyper27 rt => Sys2Proof.Machine.execT32McrPmevtyper27 rt s
  | .t32McrPmevtyper28 rt => Sys2Proof.Machine.execT32McrPmevtyper28 rt s
  | .t32McrPmevtyper29 rt => Sys2Proof.Machine.execT32McrPmevtyper29 rt s
  | .t32McrPmevtyper30 rt => Sys2Proof.Machine.execT32McrPmevtyper30 rt s

end Sys2Proof.Machine
end

