-- ==== Sys2Proof/Machine/Environment.lean ====
section
/-! DEFINITION. What the agents other than the two instructions do to the machine (10_state.md R41). -/

namespace Sys2Proof.Machine

/-- The PE state that the spec takes as given is replaced (D2; R37, R38, R40). -/
def State.withPE (s : State) (p : PE) : State :=
  { s with gpr := p.gpr, pc := p.pc, iset := p.iset, ctx := p.ctx }

/-- A reset of the bank (R36, R200, R201): every RW field UNKNOWN, the value bits irrelevant and left as they are; no
earlier content remains to govern counting, since an UNKNOWN one admits whatever it would. -/
def State.resetBank (s : State) : State :=
  { s with
    unk := Vector.replicate 31 (resetUnknown s.impl)
    superseded := Vector.replicate 31 [] }

/-- The content a write through another view leaves (R117, R118, D22): the whole value, also in the bits that are RES0
in this view, UNKNOWN where the writer says so and, as for a direct write, in evtCount for an event number that reads
back UNKNOWN. A RES0 bit that holds no state reads as 0 whatever the writer says (R34). -/
def viewWrittenReg (c : Impl) (value unknown : Word) : EvReg :=
  ⟨value, (unknown &&& keepMask c) ||| writtenUnknown c value⟩

/-- What the environment's turn does. A write through another view and a reset change the bank also without PMUv3, when no
register exists (DESIGN CHOICE, log 26). -/
def State.applyEnv (s : State) : EnvEvent → State
  | .viewWrite _ n value unknown => s.setReg n (viewWrittenReg s.impl value unknown)
  | .reset _ p => (s.resetBank).withPE p
  | .surroundings p => s.withPE p
  | .contextSync => { s with superseded := Vector.replicate 31 [] }

end Sys2Proof.Machine
end

