-- ==== Sys2Proof/Machine/Step.lean ====
section
/-! DEFINITION. One step: the environment's turn, or the PE fetches, decodes and executes one instruction. -/

namespace Sys2Proof.Machine

/-- The PE's turn: the word at the pc is decoded and its instruction executed. -/
def runInstruction (s : State) : Host.Outcome State Fault Refusal :=
  match s.fetch with
  | none => .fault .noInstruction
  | some w =>
    match decodeWord s.iset w with
    | .error e => .refused (.notInThisSpec e)
    | .ok i => exec i s

/-- One step (10_state.md R41; 20_memory.md R67): the first of the turns to come, or the PE's when none is listed. -/
def step (s : State) : Host.Outcome State Fault Refusal :=
  match s.turns with
  | [] => runInstruction s
  | .pe :: rest => runInstruction { s with turns := rest }
  | .env e :: rest => .next (({ s with turns := rest } : State).applyEnv e)

/-- The turns to come from the PE's next one on. -/
def fromNextPETurn : List Turn → List Turn
  | [] => []
  | .pe :: rest => .pe :: rest
  | .env _ :: rest => fromNextPETurn rest

/-- The state with an instruction word of the table stored where the next step fetches; the environment's turns that
stand before the PE's next turn are dropped (log 10). -/
def State.withFetchWord (s : State) (nbits w : Nat) : State :=
  { s with
    mem := s.mem.store s.pc (bytesOfWord s.iset (BitVec.ofNat 32 (w % 2 ^ nbits)))
    turns := fromNextPETurn s.turns }

end Sys2Proof.Machine
end

