-- ==== Sys2Proof/Machine/Counting.lean ====
section
/-! DEFINITION. What the fields mean to event counter n (41_event_filter_semantics.md R140 to R154): a predicate and a
selection that the counter hardware reads. There is no counter state (D20): "counted" means that the register does not
prevent the count (00_scope.md R14). -/

namespace Sys2Proof.Machine

/-- The PE on which an occurrence of an event happens (R146, R147). -/
inductive Origin where
  /-- The controlling PE, which owns the register. -/
  | controllingPE
  /-- Another PE, with its affinity fields from level 1 upward. -/
  | otherPE (upperAffinity : List Nat)
  deriving DecidableEq, Repr

/-- One occurrence of an event, in the state the predicate is asked of; `id` numbers the draws made for it. On the
controlling PE it happens at that state's `ctx.EL` and `ctx.Secure` (10_state.md R40; 60_exceptions.md R179). -/
structure Occurrence where
  id : Nat
  origin : Origin
  event : EventNumber
  deriving DecidableEq, Repr

/-! ### The filter (R140 to R145) -/

/-- `AllowsEL1` (R141): NSK against P in Non-secure state with EL3, else P alone. -/
def allowsEL1 (c : Impl) (v : Word) (secure : Bool) : Bool :=
  if c.haveEL3 && !secure then fieldNSK v == fieldP v else fieldP v == 0#1

/-- `AllowsEL0` (R142): NSU against U in Non-secure state with EL3, else U alone. -/
def allowsEL0 (c : Impl) (v : Word) (secure : Bool) : Bool :=
  if c.haveEL3 && !secure then fieldNSU v == fieldU v else fieldU v == 0#1

/-- `AllowsEL2` (R143, R144): NSH in Non-secure state; a free value in Secure state, and where there is no EL2, when
the predicate is never asked. The free value is given the fields alone: a RES0 bit reaches no rule (R34). -/
def allowsEL2 (c : Impl) (secure : Bool) (o : Occurrence) (n : Fin 31) (v : Word) : Bool :=
  if c.haveEL2 && !secure then fieldNSH v == 1#1 else Config.openEL2Filter o.id n.val (v &&& rwMask c)

/-- `AllowsEL3` (R145): a free value. -/
def allowsEL3 (c : Impl) (o : Occurrence) (n : Fin 31) (v : Word) : Bool :=
  Config.el3Filter o.id n.val (v &&& rwMask c)

/-- `FilterAllows` (R140) for an occurrence on the controlling PE, at the Exception level and in the Security state of the
context (R40: R141 to R145 read `ctx.EL` and `ctx.Secure`); a free value on another PE (R147, D23). -/
def filterAllows (c : Impl) (x : Ctx) (o : Occurrence) (n : Fin 31) (v : Word) : Bool :=
  match o.origin with
  | .controllingPE =>
    match x.el with
    | .el0 => allowsEL0 c v x.secure
    | .el1 => allowsEL1 c v x.secure
    | .el2 => allowsEL2 c x.secure o n v
    | .el3 => allowsEL3 c o n v
  | .otherPE _ => Config.siblingFilter o.id n.val

/-! ### Multithreading (R146 to R148) -/

/-- Does MT let counter n count occurrences on the origin's PE? MT that does not exist is never consulted (R146). -/
def originCounted (c : Impl) (v : Word) : Origin → Bool
  | .controllingPE => true
  | .otherPE upper => c.haveMTPMU && fieldMT v == 1#1 && upper == c.upperAffinity

/-- Attributable to the thread counting the event: an occurrence on another PE is not (R148). That one on the controlling
PE is, is PRESUMED (log 28): the rule says only which are not, and the source does not define the term (N9). -/
def attributable : Origin → Bool
  | .controllingPE => true
  | .otherPE _ => false

/-! ### The selected event (R149 to R154) -/

/-- The event counter n is configured to count, or none: the programmed number if supported (R150), nothing in the two
known ranges (R151, R152), a free choice otherwise (R153, R154). -/
def selectedEvent (c : Impl) (o : Occurrence) (n : Fin 31) (v : Word) : Option EventNumber :=
  match eventCase c (evtNum c v) with
  | .supported => some (evtNum c v)
  | .firstKnownRange => none
  | .secondKnownRange => none
  | .implementationDefined => Config.unpredictableEvent o.id n.val (evtNum c v)
  | .unlisted => Config.unpredictableEvent o.id n.val (evtNum c v)

/-! ### Which content governs (R203), and the whole -/

/-- The contents that may govern an occurrence now: the current one, and those replaced since the last context
synchronisation event (R203). -/
def State.governing (s : State) (n : Fin 31) : List EvReg := s.reg n :: s.superseded[n]

/-- The one that does: a draw per occurrence while there is more than one. -/
def State.governingReg (s : State) (o : Occurrence) (n : Fin 31) : EvReg :=
  match s.superseded[n] with
  | [] => s.reg n
  | _ :: _ => (s.governing n)[Config.windowChoice o.id n.val % (s.governing n).length]?.getD (s.reg n)

/-- The value the counter hardware reads: UNKNOWN bits are draws (R35). -/
def State.governingValue (s : State) (o : Occurrence) (n : Fin 31) : Word :=
  (s.governingReg o n).resolve (Config.unknownUse o.id n.val)

/-- Does the register let counter n count the occurrence (R14, R140, R146 to R149)? A necessary condition for an
increment, never a sufficient one. It answers also without PMUv3, when no register exists (DESIGN CHOICE, log 26), and
for n at or above the number of implemented counters (log 16). -/
def State.counted (s : State) (o : Occurrence) (n : Fin 31) : Bool :=
  originCounted s.impl (s.governingValue o n) o.origin &&
    filterAllows s.impl s.ctx o n (s.governingValue o n) &&
    selectedEvent s.impl o n (s.governingValue o n) == some o.event

end Sys2Proof.Machine
end

