-- ==== Sys2Proof/Safety.lean ====
section
/-! DEFINITION. The terms the statements are made in: the invariant, the conditions of the spec's checks in the spec's
own field names, and what a completed access leaves. -/

namespace Sys2Proof.Machine

/-! ### The invariant -/

/-- A content holds UNKNOWN bits only where a register holds bits at all (10_state.md R34, R35, R36). -/
abbrev EvReg.Sound (c : Impl) (r : EvReg) : Prop := r.unknown &&& ~~~(keepMask c) = 0

/-- The invariant of the machine: program memory is canonical, and every content of every register, the current one
and those that may still govern counting, is sound. -/
abbrev State.Inv (s : State) : Prop :=
  s.mem.wf = true ∧ ∀ n : Fin 31, (s.reg n).Sound s.impl ∧ ∀ r ∈ s.superseded[n], r.Sound s.impl

/-! ### The turns of the environment (R41) -/

/-- The environment's turn may replace the content of register n (R41 (b) to (e)). -/
def EnvEvent.touches (n : Fin 31) : EnvEvent → Bool
  | .viewWrite _ m _ _ => m == n
  | .reset _ _ => true
  | .surroundings _ => false
  | .contextSync => false

/-- "No environment write to PMEVTYPER[n]" among the turns to come (R41, R204), and no reset. -/
def quietFor (n : Fin 31) : List Turn → Bool
  | [] => true
  | .pe :: rest => quietFor n rest
  | .env e :: rest => !(e.touches n) && quietFor n rest

/-- The instruction the PE would execute now, if its turn is next and a word of this spec lies at the pc. -/
def State.currentInstr (s : State) : Option Instr :=
  match s.turns, s.fetch with
  | .env _ :: _, _ => none
  | _, none => none
  | _, some w => (decodeWord s.iset w).toOption

/-! ### The conditions of the checks (40_sysreg_access.md R102 to R106), in the spec's fields -/

/-- EL2 is enabled, uses AArch64, and `MDCR_EL2.TPM` is 1 (arms 0d, 1a). -/
abbrev Ctx.TrapsToA64EL2 (x : Ctx) : Prop := x.el2Enabled = true ∧ x.a32EL2 = false ∧ x.mdcrEL2TPM = 1

/-- EL2 is enabled, uses AArch32, and `HDCR.TPM` is 1 (arms 0e, 1b). -/
abbrev Ctx.TrapsToHyp (x : Ctx) : Prop := x.el2Enabled = true ∧ x.a32EL2 = true ∧ x.hdcrTPM = 1

/-- EL3 is implemented, uses AArch64, and `MDCR_EL3.TPM` is 1 (arms 0f, 1c, 2a). -/
abbrev Ctx.TrapsToEL3 (c : Impl) (x : Ctx) : Prop := c.haveEL3 = true ∧ x.a32EL3 = false ∧ x.mdcrEL3TPM = 1

/-- The user enable that EL1's execution state selects is 0 (arms 0a, 0b; R107). -/
abbrev Ctx.UserDisabled (x : Ctx) : Prop :=
  (x.a32EL1 = false ∧ x.pmuserenrEL0EN = 0) ∨ (x.a32EL1 = true ∧ x.pmuserenrEN = 0)

/-- The fine-grained trap bit of the instruction's kind (R106). -/
def Ctx.fineGrainedBit (x : Ctx) : Kind → Bit
  | .mrc => x.hdfgrtrEL2PMEVTYPERn
  | .mcr => x.hdfgwtrEL2PMEVTYPERn

/-- The fine-grained trap is in force (arm 0c with R106: never without ARMv8.6-FGT). -/
abbrev Ctx.FineGrainedTrap (c : Impl) (x : Ctx) (k : Kind) : Prop :=
  x.el2Enabled = true ∧ x.a32EL1 = false ∧ ¬(x.hcrEL2E2H = 1 ∧ x.hcrEL2TGE = 1) ∧
    (c.haveEL3 = true → x.scrEL3FGTEn = 1) ∧ c.haveFGT = true ∧ x.fineGrainedBit k = 1

/-- No arm of the check of the current Exception level fires (R102 to R105). -/
abbrev Ctx.CheckPasses (c : Impl) (x : Ctx) (k : Kind) : Prop :=
  (x.el = .el0 → ¬x.UserDisabled ∧ ¬x.FineGrainedTrap c k) ∧
    (x.el = .el0 ∨ x.el = .el1 → ¬x.TrapsToA64EL2 ∧ ¬x.TrapsToHyp) ∧
    (x.el ≠ .el3 → ¬x.TrapsToEL3 c)

/-- `HPMN` in force when EL2 is enabled (R108). -/
def Ctx.hpmnInForce (x : Ctx) : Nat := if x.a32EL2 then x.hdcrHPMN else x.mdcrEL2HPMN

/-- EL2 limits the accessible counters: EL2 is enabled and the access is from EL0 or EL1 (R108). -/
abbrev Ctx.LimitedByEL2 (x : Ctx) : Prop := x.el2Enabled = true ∧ (x.el = .el0 ∨ x.el = .el1)

/-- The condition of the range rule with fine-grained traps, for a permitted access (R110). -/
abbrev Ctx.FineGrainedRange (c : Impl) (x : Ctx) : Prop :=
  c.haveFGT = true ∧ x.el2Enabled = true ∧ x.a32EL1 = false ∧ x.el = .el0 ∧ ¬x.UserDisabled

/-- The register number is accessible to the current Exception level and has storage, under both range rules (R108 to
R111). -/
abbrev Ctx.InReach (c : Impl) (x : Ctx) (n : Fin 31) : Prop :=
  n.val < c.numCounters.val ∧ (x.LimitedByEL2 → n.val < x.hpmnInForce) ∧
    (x.FineGrainedRange c → n.val < x.mdcrEL2HPMN)

/-! ### What an access leaves -/

/-- What every completed access leaves as it was, the pc's advance (R121), and the next draw. -/
abbrev State.AdvancesTo (s t : State) : Prop :=
  t.pc = s.pc + 4 ∧ t.draws = s.draws + 1 ∧ t.impl = s.impl ∧ t.ctx = s.ctx ∧ t.iset = s.iset ∧
    t.turns = s.turns ∧ ∀ a : Nat, t.mem.read a = s.mem.read a

/-- The bank is as it was. -/
abbrev State.SameBank (s t : State) : Prop :=
  t.pmevtyper = s.pmevtyper ∧ t.unk = s.unk ∧ t.superseded = s.superseded

/-- Every general register but the one named is as it was. -/
abbrev State.SameXBut (s t : State) (k : BitVec 4) : Prop := ∀ j : BitVec 4, j ≠ k → t.readX j = s.readX j

/-- Every general register is as it was. -/
abbrev State.SameX (s t : State) : Prop := ∀ j : BitVec 4, t.readX j = s.readX j

/-- `t` is `s` after an `MRC` read of register n into `x[k]` (R113, R115): bit by bit the draw, 0, or the bit held. -/
abbrev State.ReadsTo (s t : State) (n : Fin 31) (k : BitVec 4) : Prop :=
  (∀ b : Nat, b < 32 → (t.readX k).getLsbD b =
    (if s.unk[n].getLsbD b then (Config.unknownBits s.draws).getLsbD b
     else if (res0Mask s.impl).getLsbD b = true ∧ s.impl.res0Stateful = false then false
     else s.pmevtyper[n].getLsbD b)) ∧
  s.SameXBut t k ∧ s.SameBank t ∧ s.AdvancesTo t

/-- `t` is `s` after an `MCR` write of register n from `x[k]` (R114, R116): the value under the mask, the unknown mask
of its event number, the old content kept for the counting window (R203), every other register as it was. -/
abbrev State.WritesTo (s t : State) (n : Fin 31) (k : BitVec 4) : Prop :=
  t.pmevtyper[n] = s.readX k &&& (if s.impl.res0Stateful then 0xFFFFFFFF#32 else rwMask s.impl) ∧
  t.unk[n] =
    (if evtReadbackUnknown s.impl (BitVec.ofNat 16 (s.readX k &&& evtMask s.impl).toNat) then evtMask s.impl else 0) ∧
  t.superseded[n] = ⟨s.pmevtyper[n], s.unk[n]⟩ :: s.superseded[n] ∧
  (∀ m : Fin 31, m ≠ n → t.pmevtyper[m] = s.pmevtyper[m] ∧ t.unk[m] = s.unk[m] ∧ t.superseded[m] = s.superseded[m]) ∧
  s.SameX t ∧ s.AdvancesTo t

/-- `t` is `s` after RAZ/WI (R111): a read gives zero in `x[k]`, a write changes nothing. -/
abbrev State.RazWiTo (s t : State) (kind : Kind) (k : BitVec 4) : Prop :=
  (kind = .mrc → t.readX k = 0) ∧ (kind = .mcr → t.readX k = s.readX k) ∧ s.SameXBut t k ∧ s.SameBank t ∧ s.AdvancesTo t

/-- `t` is `s` after a NOP (R111). -/
abbrev State.NopTo (s t : State) : Prop := s.SameX t ∧ s.SameBank t ∧ s.AdvancesTo t

end Sys2Proof.Machine
end

