-- ==== Sys2Proof/Certificates/Slice0/Obligations.lean ====
section
/-! DEFINITION. The statements for the provers. A statement about every state holds for every implementation, since the
implementation parameters (00_scope.md R6) are part of the state; a free value is in each of them unconstrained. -/

open Sys2Proof Sys2Proof.Machine

/-! ### Encoding (30_encoding.md) -/

/-- R81, R82, R85, R86: every well-formed instruction, all 124 constructors with every operand, decodes from its
word. The bit positions are the spec's general knowledge (log 5). -/
def Obligations.DecodeOfEncodeGivesItBack : Prop :=
  ∀ i : Instr, i.WellFormed → decodeWord i.iset (encode i) = .ok i

/-- R81, R82: a word has one meaning; the instruction decoded from it has that word for its encoding. The bit
positions are the spec's general knowledge (log 5). -/
def Obligations.EncodeOfDecodedIsTheWord : Prop :=
  ∀ (iset : InstrSet) (w : Word) (i : Instr), decodeWord iset w = .ok i →
    encode i = w ∧ i.WellFormed ∧ i.iset = iset

/-- 95_test_vectors.md sections 2 and 9: words of the spec and the instructions they stand for. The bit positions
are the spec's general knowledge (R85, R86; log 5). -/
def Obligations.WordsOfTheSpecDecode : Prop :=
  decodeWord .a32 0xEE1E1F9D#32 = .ok (.a32MrcPmevtyper12 14#4 1#4) ∧
    decodeWord .a32 0xEE0E2FDF#32 = .ok (.a32McrPmevtyper30 14#4 2#4) ∧
    decodeWord .t32 0xEE1E5FDF#32 = .ok (.t32MrcPmevtyper30 5#4) ∧
    decodeWord .t32 0xEE0E0F3C#32 = .ok (.t32McrPmevtyper1 0#4)

/-- R85, R86, R88: the words that select a row are those its mask and match select, in A32 with `cond` not `0b1111`.
The layout is the spec's general knowledge (log 5). -/
def Obligations.RowsAreSelectedByMaskAndMatch : Prop :=
  ∀ (w : Word) (k : Kind) (n : Fin 31),
    let fixed : Word := (if k = .mrc then 0x0E1E0F10#32 else 0x0E0E0F10#32) |||
      BitVec.ofNat 32 (n.val % 8 * 32) ||| 0xC#32 ||| BitVec.ofNat 32 (n.val / 8)
    ((∃ i, decodeWord .a32 w = .ok i ∧ i.kind = k ∧ i.reg = n) ↔
      w &&& 0x0FFF0FFF#32 = fixed ∧ w &&& 0xF0000000#32 ≠ 0xF0000000#32) ∧
    ((∃ i, decodeWord .t32 w = .ok i ∧ i.kind = k ∧ i.reg = n) ↔
      w &&& 0xFFFF0FFF#32 = fixed ||| 0xE0000000#32)

/-- R84: the coordinates of index 31 are reported "not in this spec" and never decoded. Where those coordinates
stand in the word (the two masks) is the spec's general knowledge (R85, R86; log 5). -/
def Obligations.IndexThirtyOneIsNotInThisSpec : Prop :=
  ∀ w : Word, (w &&& 0x0FEF0FFF#32 = 0x0E0E0FFF#32) →
    (w &&& 0xF0000000#32 ≠ 0xF0000000#32 → decodeWord .a32 w = .error .slot31) ∧
    (w &&& 0xF0000000#32 = 0xE0000000#32 → decodeWord .t32 w = .error .slot31)

/-! ### One step -/

/-- R41, R67 (DESIGN CHOICE, logs 7 and 9): in the PE's turn, the word at the pc that decodes to an instruction is run
as that instruction; the step adds the taking of the turn and nothing else. -/
def Obligations.StepRunsTheDecodedInstruction : Prop :=
  ∀ (s : State) (w : Word) (i : Instr), s.fetch = some w → decodeWord s.iset w = .ok i →
    (s.turns = [] → step s = exec i s) ∧
    (∀ rest, s.turns = .pe :: rest → step s = exec i { s with turns := rest })

/-- R84, R87: a word at the pc that is not in this spec gets no meaning; its reason is reported. That the PE fetches
from memory is the model's choice (log 7). -/
def Obligations.UndecodedWordIsRefused : Prop :=
  ∀ (s : State) (w : Word) (e : DecodeError), s.fetch = some w → decodeWord s.iset w = .error e →
    (∀ ev rest, s.turns ≠ .env ev :: rest) → step s = .refused (.notInThisSpec e)

/-- The model's loader (log 10): an instruction's word, stored where the next step fetches, is what that step runs. -/
def Obligations.StoredWordIsRunNext : Prop :=
  ∀ (i : Instr) (s : State), i.WellFormed → i.iset = s.iset → s.turns = [] →
    step (s.withFetchWord 32 (encode i).toNat) = exec i (s.withFetchWord 32 (encode i).toNat)

/-- R41, R203, D2: the environment's turn that is neither a write nor a reset leaves the bank, memory and the
implementation, and replaces what the event says. The form of the turns is the model's choice (logs 9, 11 and 14). -/
def Obligations.QuietEnvironmentTurnKeepsTheBank : Prop :=
  ∀ (s : State) (rest : List Turn),
    (∀ p : PE, s.turns = .env (.surroundings p) :: rest →
      ∃ t, step s = .next t ∧ s.SameBank t ∧ t.gpr = p.gpr ∧ t.pc = p.pc ∧ t.iset = p.iset ∧ t.ctx = p.ctx ∧
        t.impl = s.impl ∧ t.turns = rest ∧ t.draws = s.draws ∧ ∀ a, t.mem.read a = s.mem.read a) ∧
    (s.turns = .env .contextSync :: rest →
      ∃ t, step s = .next t ∧ t.pmevtyper = s.pmevtyper ∧ t.unk = s.unk ∧ (∀ n : Fin 31, t.superseded[n] = []) ∧
        t.gpr = s.gpr ∧ t.pc = s.pc ∧ t.iset = s.iset ∧ t.ctx = s.ctx ∧
        t.impl = s.impl ∧ t.turns = rest ∧ t.draws = s.draws ∧ ∀ a, t.mem.read a = s.mem.read a)

/-! ### The forms the spec refuses (40_sysreg_access.md R119, R120) -/

/-- R119: `Rt` = 15 is refused for every instruction, in every state (a conditional form under R120's name). -/
def Obligations.RtFifteenIsRefused : Prop :=
  ∀ (i : Instr) (s : State), i.rt = 15#4 →
    exec i s = .refused (if i.cond = condAlways then .rtIsFifteen else .conditionNotAlways)

/-- R120: a form with any condition but always is refused, in every state. -/
def Obligations.ConditionalFormIsRefused : Prop :=
  ∀ (i : Instr) (s : State), i.cond ≠ condAlways → exec i s = .refused .conditionNotAlways

/-! ### Completion: what an access in range does (R113 to R116, R121) -/

/-- R115: the value a read returns, bit by bit, whatever word is drawn for its UNKNOWN bits. -/
def Obligations.ValueAReadReturns : Prop :=
  ∀ (c : Impl) (r : EvReg) (drawn : Word) (b : Nat), b < 32 →
    (readValue c r drawn).getLsbD b =
      (if r.unknown.getLsbD b = true then drawn.getLsbD b
      else if (res0Mask c).getLsbD b = true ∧ c.res0Stateful = false then false
      else r.value.getLsbD b)

/-- R116: the value and the unknown mask a write of `v` stores. -/
def Obligations.ValueAWriteStores : Prop :=
  ∀ (c : Impl) (v : Word),
    (writtenReg c v).value = v &&& (if c.res0Stateful then 0xFFFFFFFF#32 else rwMask c) ∧
    (writtenReg c v).unknown =
      (let e := v &&& evtMask c
      if EventRange.covers c.supportedEvents (BitVec.ofNat 16 e.toNat) then 0
      else if e.toNat ≤ 0x003F then 0
      else if c.havePMUv3p1 = true ∧ 0x4000 ≤ e.toNat ∧ e.toNat ≤ 0x403F then 0
      else evtMask c)

/-- R115 (with R113, R121): every `MRC` constructor, past the checks of its Exception level and in reach, completes:
`x[t]` takes the value bit by bit, the pc advances, and everything else stands. That UNKNOWN bits come from the draw
numbered by `draws`, and that `draws` then counts on, is the model's own (log 8). -/
def Obligations.ReadInRangeCompletes : Prop :=
  ∀ (i : Instr) (s : State), i.kind = .mrc → i.Admitted → s.impl.havePMUv3 = true →
    s.ctx.CheckPasses s.impl .mrc → s.ctx.InReach s.impl i.reg →
    ∃ t, exec i s = .next t ∧ s.ReadsTo t i.reg i.rt

/-- R116 (with R114, R121): every `MCR` constructor, past the checks of its Exception level and in reach, completes:
the register and its unknown mask take the value written, the pc advances, and everything else stands. The old content
kept for the counting window and the count of draws are the model's own (logs 8 and 14). -/
def Obligations.WriteInRangeCompletes : Prop :=
  ∀ (i : Instr) (s : State), i.kind = .mcr → i.Admitted → s.impl.havePMUv3 = true →
    s.ctx.CheckPasses s.impl .mcr → s.ctx.InReach s.impl i.reg →
    ∃ t, exec i s = .next t ∧ s.WritesTo t i.reg i.rt

/-- R121: whatever the outcome, an access that completes advances the pc by 4 and changes no other state than R113 and
R114 name: an `MRC` only `x[t]`, an `MCR` only register n, and never the context, memory or the implementation. The
count of draws, the turns, the instruction set and memory are the model's own (logs 5, 7, 8 and 9). -/
def Obligations.CompletedAccessFrame : Prop :=
  ∀ (i : Instr) (s t : State), exec i s = .next t →
    s.AdvancesTo t ∧
    (i.kind = .mrc → s.SameBank t ∧ s.SameXBut t i.rt) ∧
    (i.kind = .mcr → s.SameX t ∧ ∀ m : Fin 31, m ≠ i.reg →
      t.pmevtyper[m] = s.pmevtyper[m] ∧ t.unk[m] = s.unk[m] ∧ t.superseded[m] = s.superseded[m])

/-- R86, D28: the decoded level does not distinguish A32 from T32: instructions with the same kind, register, condition
and `Rt` have the same meaning. -/
def Obligations.SameMeaningInBothInstructionSets : Prop :=
  ∀ (i j : Instr) (s : State), i.kind = j.kind → i.reg = j.reg → i.cond = j.cond → i.rt = j.rt →
    exec i s = exec j s

/-! ### Presence and the checks (R101 to R106) -/

/-- R101: without PMUv3 every access is UNDEFINED, at every Exception level, whatever the context. -/
def Obligations.AbsentPmuIsUndefined : Prop :=
  ∀ (i : Instr) (s : State), i.Admitted → s.impl.havePMUv3 = false → exec i s = .fault .undefined

/-- R102 to R106, R123: the check at each Exception level, for either kind, whatever the context: the arms in the order
written. -/
def Obligations.ChecksOfTheExceptionLevels : Prop :=
  ∀ (c : Impl) (x : Ctx) (k : Kind),
    (x.el = .el0 → accessCheck c x k =
      if x.a32EL1 = false ∧ x.pmuserenrEL0EN = 0 then
        if x.el2Enabled = true ∧ x.a32EL2 = false ∧ x.hcrEL2TGE = 1 then .raise (.trapA64 .el2 0x03)
        else .raise (.trapA64 .el1 0x03)
      else if x.a32EL1 = true ∧ x.pmuserenrEN = 0 then
        if x.el2Enabled = true ∧ x.a32EL2 = false ∧ x.hcrEL2TGE = 1 then .raise (.trapA64 .el2 0x03)
        else if x.el2Enabled = true ∧ x.a32EL2 = true ∧ x.hcrTGE = 1 then .raise (.hypTrap 0x00)
        else .raise .undefined
      else if x.el2Enabled = true ∧ x.a32EL1 = false ∧ ¬(x.hcrEL2E2H = 1 ∧ x.hcrEL2TGE = 1) ∧
          (c.haveEL3 = false ∨ x.scrEL3FGTEn = 1) ∧ c.haveFGT = true ∧
          (if k = .mrc then x.hdfgrtrEL2PMEVTYPERn = 1 else x.hdfgwtrEL2PMEVTYPERn = 1) then
        .raise (.trapA64 .el2 0x03)
      else if x.el2Enabled = true ∧ x.a32EL2 = false ∧ x.mdcrEL2TPM = 1 then .raise (.trapA64 .el2 0x03)
      else if x.el2Enabled = true ∧ x.a32EL2 = true ∧ x.hdcrTPM = 1 then .raise (.hypTrap 0x03)
      else if c.haveEL3 = true ∧ x.a32EL3 = false ∧ x.mdcrEL3TPM = 1 then .raise (.trapA64 .el3 0x03)
      else .proceed) ∧
    (x.el = .el1 → accessCheck c x k =
      if x.el2Enabled = true ∧ x.a32EL2 = false ∧ x.mdcrEL2TPM = 1 then .raise (.trapA64 .el2 0x03)
      else if x.el2Enabled = true ∧ x.a32EL2 = true ∧ x.hdcrTPM = 1 then .raise (.hypTrap 0x03)
      else if c.haveEL3 = true ∧ x.a32EL3 = false ∧ x.mdcrEL3TPM = 1 then .raise (.trapA64 .el3 0x03)
      else .proceed) ∧
    (x.el = .el2 → accessCheck c x k =
      if c.haveEL3 = true ∧ x.a32EL3 = false ∧ x.mdcrEL3TPM = 1 then .raise (.trapA64 .el3 0x03)
      else .proceed) ∧
    (x.el = .el3 → accessCheck c x k = .proceed)

/-- R102: at EL0, for a register in reach, the arms 0a.1 to 0g in the order written. -/
def Obligations.AccessAtEL0 : Prop :=
  ∀ (i : Instr) (s : State), i.Admitted → s.impl.havePMUv3 = true → s.ctx.el = .el0 → s.ctx.InReach s.impl i.reg →
    if s.ctx.a32EL1 = false ∧ s.ctx.pmuserenrEL0EN = 0 then
      if s.ctx.el2Enabled = true ∧ s.ctx.a32EL2 = false ∧ s.ctx.hcrEL2TGE = 1 then
        exec i s = .fault (.trapA64 .el2 0x03)
      else exec i s = .fault (.trapA64 .el1 0x03)
    else if s.ctx.a32EL1 = true ∧ s.ctx.pmuserenrEN = 0 then
      if s.ctx.el2Enabled = true ∧ s.ctx.a32EL2 = false ∧ s.ctx.hcrEL2TGE = 1 then
        exec i s = .fault (.trapA64 .el2 0x03)
      else if s.ctx.el2Enabled = true ∧ s.ctx.a32EL2 = true ∧ s.ctx.hcrTGE = 1 then
        exec i s = .fault (.hypTrap 0x00)
      else exec i s = .fault .undefined
    else if s.ctx.FineGrainedTrap s.impl i.kind then exec i s = .fault (.trapA64 .el2 0x03)
    else if s.ctx.TrapsToA64EL2 then exec i s = .fault (.trapA64 .el2 0x03)
    else if s.ctx.TrapsToHyp then exec i s = .fault (.hypTrap 0x03)
    else if s.ctx.TrapsToEL3 s.impl then exec i s = .fault (.trapA64 .el3 0x03)
    else ∃ t, exec i s = .next t

/-- R103: at EL1, for a register in reach, the arms 1a to 1d in the order written. -/
def Obligations.AccessAtEL1 : Prop :=
  ∀ (i : Instr) (s : State), i.Admitted → s.impl.havePMUv3 = true → s.ctx.el = .el1 → s.ctx.InReach s.impl i.reg →
    if s.ctx.TrapsToA64EL2 then exec i s = .fault (.trapA64 .el2 0x03)
    else if s.ctx.TrapsToHyp then exec i s = .fault (.hypTrap 0x03)
    else if s.ctx.TrapsToEL3 s.impl then exec i s = .fault (.trapA64 .el3 0x03)
    else ∃ t, exec i s = .next t

/-- R104: at EL2, for a register in reach, only the EL3 `TPM` trap; neither EL2 `TPM` bit matters. -/
def Obligations.AccessAtEL2 : Prop :=
  ∀ (i : Instr) (s : State), i.Admitted → s.impl.havePMUv3 = true → s.ctx.el = .el2 → s.ctx.InReach s.impl i.reg →
    if s.ctx.TrapsToEL3 s.impl then exec i s = .fault (.trapA64 .el3 0x03)
    else ∃ t, exec i s = .next t

/-- R105: at EL3 an access to an implemented counter's register always proceeds to its data statement. The draw, the
count of draws and the list of replaced contents are the model's own (logs 8 and 14). -/
def Obligations.AccessAtEL3 : Prop :=
  ∀ (i : Instr) (s : State), i.Admitted → s.impl.havePMUv3 = true → s.ctx.el = .el3 →
    i.reg.val < s.impl.numCounters.val →
    ∃ t, exec i s = .next t ∧ (i.kind = .mrc → s.ReadsTo t i.reg i.rt) ∧ (i.kind = .mcr → s.WritesTo t i.reg i.rt)

/-! ### The range rules (R108 to R112, R173) -/

/-- R108: the number of accessible counters. -/
def Obligations.AccessibleCounters : Prop :=
  ∀ (c : Impl) (x : Ctx),
    (x.LimitedByEL2 → x.a32EL2 = true → accessible c x = x.hdcrHPMN) ∧
    (x.LimitedByEL2 → x.a32EL2 = false → accessible c x = x.mdcrEL2HPMN) ∧
    (¬x.LimitedByEL2 → accessible c x = c.numCounters.val)

/-- R110: the range rule with fine-grained traps; where it gives no behaviour, the rules answer as without the feature. -/
def Obligations.RangeWithFineGrainedTraps : Prop :=
  ∀ (c : Impl) (x : Ctx) (n : Fin 31), x.FineGrainedRange c →
    (c.numCounters.val ≤ n.val → rangeBehaviours c x n = [.raise .undefined]) ∧
    (n.val < c.numCounters.val → x.mdcrEL2HPMN ≤ n.val → rangeBehaviours c x n = [.raise .trapEL2Range]) ∧
    (n.val < c.numCounters.val → n.val < x.mdcrEL2HPMN →
      rangeBehaviours c x n = rangeBehaviours { c with haveFGT := false } x n)

/-- R111: at or above the accessible counters, where R110 gives no behaviour, exactly the permitted behaviours. -/
def Obligations.RangeGeneralCase : Prop :=
  ∀ (c : Impl) (x : Ctx) (n : Fin 31) (b : Behaviour),
    ¬(x.FineGrainedRange c ∧ (c.numCounters.val ≤ n.val ∨ x.mdcrEL2HPMN ≤ n.val)) → accessible c x ≤ n.val →
    (b ∈ rangeBehaviours c x n ↔
      b = .raise .undefined ∨ b = .razWi ∨ b = .nop ∨
        (b = .raise .trapEL2Range ∧ x.el2Enabled = true ∧ n.val < c.numCounters.val ∧
          (x.el = .el1 ∨ (x.el = .el0 ∧ ¬x.UserDisabled))))

/-- R109: below the accessible counters, where R110 gives no behaviour: in range with storage, else the three
unconditional behaviours. -/
def Obligations.RangeBelowAccessible : Prop :=
  ∀ (c : Impl) (x : Ctx) (n : Fin 31) (b : Behaviour),
    ¬(x.FineGrainedRange c ∧ (c.numCounters.val ≤ n.val ∨ x.mdcrEL2HPMN ≤ n.val)) → n.val < accessible c x →
    (b ∈ rangeBehaviours c x n ↔
      if n.val < c.numCounters.val then b = .inRange
      else b = .raise .undefined ∨ b = .razWi ∨ b = .nop)

/-- R112: in range the check alone decides; out of range every order of the check and the range rules is admitted. -/
def Obligations.EveryOrderOfTheChecksIsAdmitted : Prop :=
  ∀ (c : Impl) (x : Ctx) (k : Kind) (n : Fin 31) (b : Behaviour), c.havePMUv3 = true →
    (rangeBehaviours c x n = [.inRange] →
      (b ∈ accessBehaviours c x k n ↔
        (accessCheck c x k = .proceed ∧ b = .inRange) ∨ ∃ r, accessCheck c x k = .raise r ∧ b = .raise r)) ∧
    (rangeBehaviours c x n ≠ [.inRange] →
      (b ∈ accessBehaviours c x k n ↔
        b ∈ rangeBehaviours c x n ∨ ∃ r, accessCheck c x k = .raise r ∧ b = .raise r))

/-- R100: every access performs one of the behaviours the rules admit for it, and nothing else. Which one is a free
choice (log 8). -/
def Obligations.OutcomeIsAdmitted : Prop :=
  ∀ (i : Instr) (s : State), i.Admitted →
    ∃ b ∈ accessBehaviours s.impl s.ctx i.kind i.reg, exec i s = s.perform i.kind i.reg i.rt b

/-- R100, R111: past the checks and at or above the accessible counters, an access is UNDEFINED, RAZ/WI, a NOP, or,
for a counter reserved to EL2 from EL1 or EL0, the range trap. The count of draws is the model's own (log 8). -/
def Obligations.OutOfReachAccess : Prop :=
  ∀ (i : Instr) (s : State), i.Admitted → s.impl.havePMUv3 = true → s.ctx.CheckPasses s.impl i.kind →
    ¬s.ctx.FineGrainedRange s.impl → accessible s.impl s.ctx ≤ i.reg.val → s.impl.rangeTrapForm = .abstract →
    exec i s = .fault .undefined ∨ (∃ t, exec i s = .next t ∧ s.RazWiTo t i.kind i.rt) ∨
      (∃ t, exec i s = .next t ∧ s.NopTo t) ∨
      (exec i s = .fault .trapEL2Range ∧ s.ctx.el2Enabled = true ∧ i.reg.val < s.impl.numCounters.val ∧
        (s.ctx.el = .el0 ∨ s.ctx.el = .el1))

/-- R110, R173: a permitted EL0 access under the fine-grained range rule is UNDEFINED for an unimplemented counter and
trapped to EL2 from `MDCR_EL2.HPMN` up. -/
def Obligations.FineGrainedRangeAccess : Prop :=
  ∀ (i : Instr) (s : State), i.Admitted → s.impl.havePMUv3 = true → s.ctx.CheckPasses s.impl i.kind →
    s.ctx.FineGrainedRange s.impl → s.impl.rangeTrapForm = .abstract →
    (s.impl.numCounters.val ≤ i.reg.val → exec i s = .fault .undefined) ∧
    (i.reg.val < s.impl.numCounters.val → s.ctx.mdcrEL2HPMN ≤ i.reg.val → exec i s = .fault .trapEL2Range)

/-- R173, D5: with `RangeTrapForm` = `like_TPM` the range trap takes the form of the TPM trap, and never its own.
The refinement is the spec's guess (log 19). -/
def Obligations.RefinedRangeTrapTakesTheTpmForm : Prop :=
  ∀ (i : Instr) (s : State), s.impl.rangeTrapForm = .likeTPM →
    exec i s ≠ .fault .trapEL2Range ∧
    (i.Admitted → s.impl.havePMUv3 = true → s.ctx.CheckPasses s.impl i.kind → s.ctx.FineGrainedRange s.impl →
      i.reg.val < s.impl.numCounters.val → s.ctx.mdcrEL2HPMN ≤ i.reg.val →
      exec i s = if s.ctx.a32EL2 then .fault (.hypTrap 0x03) else .fault (.trapA64 .el2 0x03))

/-- R20, R109, R111: an access to the register of an unimplemented counter raises, or is RAZ/WI or a NOP: it never
changes the bank and never reads it into `x[t]`. That State holds storage no access reaches is the model's choice
(log 16). -/
def Obligations.UnimplementedCounterHasNoStorage : Prop :=
  ∀ (i : Instr) (s : State), i.Admitted → s.impl.numCounters.val ≤ i.reg.val →
    (∃ f, exec i s = .fault f) ∨ ∃ t, exec i s = .next t ∧ (s.RazWiTo t i.kind i.rt ∨ s.NopTo t)

/-! ### What is raised (60_exceptions.md) -/

/-- R171, R172, R173: an access faults only with an outcome of the source, with the codes of its call sites. -/
def Obligations.FaultsCarryTheSourcesCodes : Prop :=
  ∀ (i : Instr) (s : State) (f : Fault), exec i s = .fault f →
    f = .undefined ∨ f = .trapA64 .el1 0x03 ∨ f = .trapA64 .el2 0x03 ∨ f = .trapA64 .el3 0x03 ∨
      f = .hypTrap 0x00 ∨ f = .hypTrap 0x03 ∨ (f = .trapEL2Range ∧ s.impl.rangeTrapForm = .abstract)

/-- R176: who can be trapped where: to EL1 only EL0; to EL2 only EL0 and EL1; to EL3 only below EL3, when EL3 uses
AArch64 and asks for it; and `HypTrap(0x00)` only from a disabled EL0 access that `HCR.TGE` reroutes. -/
def Obligations.TrapsAreRoutedByTheGuards : Prop :=
  ∀ (i : Instr) (s : State),
    (exec i s = .fault (.trapA64 .el1 0x03) → s.ctx.el = .el0 ∧ s.ctx.a32EL1 = false ∧ s.ctx.UserDisabled) ∧
    (exec i s = .fault (.trapA64 .el2 0x03) ∨ exec i s = .fault (.hypTrap 0x03) ∨ exec i s = .fault .trapEL2Range →
      s.ctx.el2Enabled = true ∧ (s.ctx.el = .el0 ∨ s.ctx.el = .el1)) ∧
    (exec i s = .fault (.trapA64 .el3 0x03) → s.ctx.el ≠ .el3 ∧ s.ctx.TrapsToEL3 s.impl) ∧
    (exec i s = .fault (.hypTrap 0x00) →
      s.ctx.el = .el0 ∧ s.ctx.UserDisabled ∧ s.ctx.el2Enabled = true ∧ s.ctx.a32EL2 = true ∧ s.ctx.hcrTGE = 1)

/-! ### Fields, masks, event numbers (10_state.md R33; 41_event_filter_semantics.md R149 to R154) -/

/-- R33: the masks, bit by bit, and their smallest and largest values. -/
def Obligations.MasksOfTheImplementation : Prop :=
  (∀ (c : Impl) (b : Nat), b < 32 →
    ((rwMask c).getLsbD b = true ↔
      b = 31 ∨ b = 30 ∨ ((b = 29 ∨ b = 28) ∧ c.haveEL3 = true) ∨ (b = 27 ∧ c.haveEL2 = true) ∨
        (b = 25 ∧ c.haveMTPMU = true) ∨ (10 ≤ b ∧ b ≤ 15 ∧ c.havePMUv3p1 = true) ∨ b ≤ 9) ∧
    ((res0Mask c).getLsbD b = !(rwMask c).getLsbD b) ∧
    ((evtMask c).getLsbD b = true ↔ b ≤ 9 ∨ (b ≤ 15 ∧ c.havePMUv3p1 = true))) ∧
  (∀ c : Impl, res0Mask c &&& 0x05FF0000#32 = 0x05FF0000#32) ∧
  (∀ c : Impl, c.haveEL2 = false → c.haveEL3 = false → c.haveMTPMU = false → c.havePMUv3p1 = false →
    rwMask c = 0xC00003FF#32) ∧
  (∀ c : Impl, c.haveEL2 = true → c.haveEL3 = true → c.haveMTPMU = true → c.havePMUv3p1 = true →
    rwMask c = 0xFA00FFFF#32)

/-- R149: the event number is the low 16 bits with ARMv8.1-PMU and the low ten without, the number `v AND EVTMASK` that
R116 writes. -/
def Obligations.EventNumberOfARegister : Prop :=
  ∀ (c : Impl) (v : Word),
    (evtNum c v).toNat = v.toNat % (if c.havePMUv3p1 then 65536 else 1024) ∧
    (evtNum c v).toNat = (v &&& evtMask c).toNat

/-- R150 to R154: which written event numbers read back UNKNOWN. -/
def Obligations.EventNumbersThatReadBackUnknown : Prop :=
  ∀ (c : Impl) (e : EventNumber),
    evtReadbackUnknown c e = true ↔
      EventRange.covers c.supportedEvents e = false ∧ 0x003F < e.toNat ∧
        ¬(c.havePMUv3p1 = true ∧ 0x4000 ≤ e.toNat ∧ e.toNat ≤ 0x403F)

/-! ### Reads, writes and time (R67, R204; R36, R200 to R202) -/

/-- R204: a read that follows a write of the same register returns the value written, through the RES0 and UNKNOWN
rules, with no barrier; which number the draw of its UNKNOWN bits has is the model's own (log 8). -/
def Obligations.ReadAfterWriteReturnsTheValue : Prop :=
  ∀ (w r : Instr) (s : State), w.kind = .mcr → r.kind = .mrc → w.reg = r.reg → w.Admitted → r.Admitted →
    s.impl.havePMUv3 = true → s.ctx.CheckPasses s.impl .mcr → s.ctx.CheckPasses s.impl .mrc →
    s.ctx.InReach s.impl w.reg →
    ∃ s₁ s₂, exec w s = .next s₁ ∧ exec r s₁ = .next s₂ ∧ ∀ b : Nat, b < 32 →
      (s₂.readX r.rt).getLsbD b =
        (if evtReadbackUnknown s.impl (evtNum s.impl (s.readX w.rt)) = true ∧ (evtMask s.impl).getLsbD b = true then
          (Config.unknownBits (s.draws + 1)).getLsbD b
        else if (res0Mask s.impl).getLsbD b = true ∧ s.impl.res0Stateful = false then false
        else (s.readX w.rt).getLsbD b)

/-- R67, R41: over a run of any length, a register keeps its content while no environment turn touches it and no
`MCR` of it is executed. The form of the turns is the model's choice (log 9). -/
def Obligations.RegisterKeepsItsContent : Prop :=
  ∀ (n : Fin 31) (k : Nat) (s t : State), quietFor n s.turns = true →
    (∀ (j : Nat) (u : State) (i : Instr), j < k → Sys2Proof.core.run j s = .next u → u.currentInstr = some i →
      ¬(i.kind = .mcr ∧ i.reg = n)) →
    Sys2Proof.core.run k s = .next t →
    t.pmevtyper[n] = s.pmevtyper[n] ∧ t.unk[n] = s.unk[n]

/-- R36, R200, R201: a reset, Warm or other, leaves every RW field of every register UNKNOWN (with RES0 bits that hold
state). -/
def Obligations.ResetLeavesTheBankUnknown : Prop :=
  ∀ (s : State) (kind : ResetKind) (p : PE) (rest : List Turn), s.turns = .env (.reset kind p) :: rest →
    ∃ t, step s = .next t ∧
      ∀ n : Fin 31, t.unk[n] = rwMask s.impl ||| (if s.impl.res0Stateful then res0Mask s.impl else 0)

/-- The rest of a reset is the model's choice (logs 9 and 11): the PE is as the event says; implementation, memory and
the count of draws stand; no content replaced before the reset governs any longer. -/
def Obligations.ResetOutsideTheBank : Prop :=
  ∀ (s : State) (kind : ResetKind) (p : PE) (rest : List Turn), s.turns = .env (.reset kind p) :: rest →
    ∃ t, step s = .next t ∧ t.impl = s.impl ∧ t.turns = rest ∧ t.draws = s.draws ∧
      t.gpr = p.gpr ∧ t.pc = p.pc ∧ t.iset = p.iset ∧ t.ctx = p.ctx ∧
      (∀ n : Fin 31, t.superseded[n] = []) ∧ ∀ a, t.mem.read a = s.mem.read a

/-- R36, R115, R202: a read of a register still as a reset left it gives a draw in every RW bit (and every RES0 bit
that holds state), and 0 in the rest. The number of the draw is the model's own (log 8). -/
def Obligations.ReadAfterResetIsDrawn : Prop :=
  ∀ (i : Instr) (s : State), i.kind = .mrc → i.Admitted → s.impl.havePMUv3 = true →
    s.ctx.CheckPasses s.impl .mrc → s.ctx.InReach s.impl i.reg →
    s.unk[i.reg] = rwMask s.impl ||| (if s.impl.res0Stateful then res0Mask s.impl else 0) →
    ∃ t, exec i s = .next t ∧ ∀ b : Nat, b < 32 →
      (t.readX i.rt).getLsbD b =
        (((rwMask s.impl).getLsbD b || s.impl.res0Stateful) && (Config.unknownBits s.draws).getLsbD b)

/-- R36: the machine right after reset, for the implementation it starts with (log 1, the model's choice): every
register has all its RW fields UNKNOWN. -/
def Obligations.ResetStateHasAnUnknownBank : Prop :=
  ∀ n : Fin 31, State.reset.unk[n] = rwMask State.reset.impl ∧ State.reset.superseded[n] = []

/-! ### Invariants and whole-machine rules -/

/-- The invariant holds right after reset. Program memory is the model's own (log 7). -/
def Obligations.InvariantHoldsAtReset : Prop := State.reset.Inv

/-- Every step, of either agent, keeps the invariant: memory canonical (log 7) and, in every content, UNKNOWN bits only
where a register holds bits (R34, R35, R36). -/
def Obligations.StepKeepsTheInvariant : Prop :=
  ∀ s t : State, s.Inv → step s = .next t → t.Inv

/-- R41: a step changes register n only if the environment's turn touches it or the PE executes an admitted `MCR` of it
that passes the checks and is in reach. -/
def Obligations.OnlyAReachingWriteChangesARegister : Prop :=
  ∀ (s t : State) (n : Fin 31), step s = .next t →
    (t.pmevtyper[n] ≠ s.pmevtyper[n] ∨ t.unk[n] ≠ s.unk[n]) →
    (∃ e rest, s.turns = .env e :: rest ∧ e.touches n = true) ∨
      (∃ i, s.currentInstr = some i ∧ i.kind = .mcr ∧ i.reg = n ∧ i.Admitted ∧ s.impl.havePMUv3 = true ∧
        s.ctx.CheckPasses s.impl .mcr ∧ s.ctx.InReach s.impl n)

/-- No step, of either agent, changes the implementation or a byte of program memory. This is the model's choice:
the implementation is held in the state (log 1), program memory is the model's own (log 7), and that it stands over
a reset and over a change of the surroundings is log 11. That no instruction changes either follows R6, R60 and R69. -/
def Obligations.StepKeepsImplementationAndMemory : Prop :=
  ∀ s t : State, step s = .next t → t.impl = s.impl ∧ ∀ a : Nat, t.mem.read a = s.mem.read a

/-- R65, R115, R116: an access of register n depends on no other register of the bank: states that differ only in other
registers stop alike, or go on to states that agree on everything but those. That the draws of the two runs agree is the
model's choice (log 8: draws are numbered by the access alone). -/
def Obligations.OtherRegistersDoNotMatter : Prop :=
  ∀ (i : Instr) (s t : State), s.pmevtyper[i.reg] = t.pmevtyper[i.reg] → s.unk[i.reg] = t.unk[i.reg] →
    s.impl = t.impl → s.ctx = t.ctx → s.gpr = t.gpr → s.pc = t.pc → s.draws = t.draws →
    (∀ f, exec i s = .fault f ↔ exec i t = .fault f) ∧
    (∀ r, exec i s = .refused r ↔ exec i t = .refused r) ∧
    (∀ s', exec i s = .next s' → ∃ t', exec i t = .next t' ∧ s'.gpr = t'.gpr ∧ s'.pc = t'.pc ∧
      s'.draws = t'.draws ∧ s'.pmevtyper[i.reg] = t'.pmevtyper[i.reg] ∧ s'.unk[i.reg] = t'.unk[i.reg])

/-! ### What the fields mean to counter n (41_event_filter_semantics.md; R34, R203) -/

/-- R141: counting at EL1. -/
def Obligations.FilterAtEL1 : Prop :=
  ∀ (c : Impl) (x : Ctx) (o : Occurrence) (n : Fin 31) (v : Word), o.origin = .controllingPE → x.el = .el1 →
    (filterAllows c x o n v = true ↔
      if c.haveEL3 = true ∧ x.secure = false then v.getLsbD 29 = v.getLsbD 31 else v.getLsbD 31 = false)

/-- R142: counting at EL0. -/
def Obligations.FilterAtEL0 : Prop :=
  ∀ (c : Impl) (x : Ctx) (o : Occurrence) (n : Fin 31) (v : Word), o.origin = .controllingPE → x.el = .el0 →
    (filterAllows c x o n v = true ↔
      if c.haveEL3 = true ∧ x.secure = false then v.getLsbD 28 = v.getLsbD 30 else v.getLsbD 30 = false)

/-- R143: counting at Non-secure EL2. -/
def Obligations.FilterAtNonSecureEL2 : Prop :=
  ∀ (c : Impl) (x : Ctx) (o : Occurrence) (n : Fin 31) (v : Word), o.origin = .controllingPE → x.el = .el2 →
    c.haveEL2 = true → x.secure = false → (filterAllows c x o n v = true ↔ v.getLsbD 27 = true)

/-- R146, R147: MT lets counter n count an occurrence on another PE exactly when MT exists, is 1, and the PE shares
every affinity level from 1 upward; otherwise the occurrence is not counted. Where this PE's affinity is held is the
model's choice (log 12). -/
def Obligations.OtherPEsAreCountedOnlyUnderMT : Prop :=
  ∀ (s : State) (o : Occurrence) (n : Fin 31) (upper : List Nat), o.origin = .otherPE upper →
    (originCounted s.impl (s.governingValue o n) o.origin = true ↔
      s.impl.haveMTPMU = true ∧ (s.governingValue o n).getLsbD 25 = true ∧ upper = s.impl.upperAffinity) ∧
    (¬(s.impl.haveMTPMU = true ∧ (s.governingValue o n).getLsbD 25 = true ∧ upper = s.impl.upperAffinity) →
      s.counted o n = false)

/-- R151, R152: a reserved or unsupported number in either known range counts nothing and reads back as written. -/
def Obligations.KnownRangesCountNothing : Prop :=
  ∀ (s : State) (o : Occurrence) (n : Fin 31) (e : EventNumber), e = evtNum s.impl (s.governingValue o n) →
    EventRange.covers s.impl.supportedEvents e = false →
    (e.toNat ≤ 0x003F ∨ (s.impl.havePMUv3p1 = true ∧ 0x4000 ≤ e.toNat ∧ e.toNat ≤ 0x403F)) →
    s.counted o n = false ∧ evtReadbackUnknown s.impl e = false

/-- R150: a supported number is the event counter n is configured to count, and it reads back. -/
def Obligations.SupportedEventIsTheOneCounted : Prop :=
  ∀ (s : State) (o : Occurrence) (n : Fin 31) (e : EventNumber), e = evtNum s.impl (s.governingValue o n) →
    EventRange.covers s.impl.supportedEvents e = true →
    (s.counted o n = true ↔ originCounted s.impl (s.governingValue o n) o.origin = true ∧
      filterAllows s.impl s.ctx o n (s.governingValue o n) = true ∧ o.event = e) ∧
    evtReadbackUnknown s.impl e = false

/-- R203: what governs an occurrence is the current content or one replaced since the last context synchronisation
event; a write adds the content it replaces; after the event the current content alone governs. How the choices are
held is the model's own (log 14). -/
def Obligations.OldOrNewValueGovernsUntilContextSync : Prop :=
  ∀ (s : State) (o : Occurrence) (n : Fin 31),
    (s.governingReg o n = s.reg n ∨ s.governingReg o n ∈ s.superseded[n]) ∧
    (∀ (i : Instr), i.kind = .mcr → i.reg = n → i.Admitted → s.impl.havePMUv3 = true →
      s.ctx.CheckPasses s.impl .mcr → s.ctx.InReach s.impl n →
      ∃ t, exec i s = .next t ∧ t.governing n = t.reg n :: s.governing n) ∧
    (∀ rest, s.turns = .env .contextSync :: rest →
      ∃ t, step s = .next t ∧ t.reg n = s.reg n ∧ t.governing n = [s.reg n] ∧ t.governingReg o n = s.reg n)

/-- R34: a RES0 bit has no effect on any rule: values that agree on the RW bits filter, select and classify alike. -/
def Obligations.Res0BitsReachNoRule : Prop :=
  ∀ (c : Impl) (v v' : Word), v &&& rwMask c = v' &&& rwMask c →
    (∀ (x : Ctx) (o : Occurrence) (n : Fin 31),
      filterAllows c x o n v = filterAllows c x o n v' ∧ selectedEvent c o n v = selectedEvent c o n v') ∧
    (∀ g : Origin, originCounted c v g = originCounted c v' g) ∧
    evtReadbackUnknown c (evtNum c v) = evtReadbackUnknown c (evtNum c v')

/-- R35, R36, R202: while a register is as a reset left it, what the counter hardware reads in every RW bit is a
draw. How draws are numbered is the model's own (log 8). -/
def Obligations.FilterAfterResetIsDrawn : Prop :=
  ∀ (s : State) (o : Occurrence) (n : Fin 31), s.superseded[n] = [] →
    s.unk[n] = rwMask s.impl ||| (if s.impl.res0Stateful then res0Mask s.impl else 0) →
    s.governingValue o n &&& rwMask s.impl = Config.unknownUse o.id n.val &&& rwMask s.impl

/-- R117, R118 (D22): a write of known bits through another view, `PMXEVTYPER`, AArch64 or External, is what a later
`MRC` returns, under the same UNKNOWN and RES0 rules. The form of the turns is the model's choice (logs 9 and 15). -/
def Obligations.WriteThroughAnotherViewIsReadBack : Prop :=
  ∀ (i : Instr) (s : State) (view : View) (value : Word) (rest : List Turn), i.kind = .mrc → i.Admitted →
    s.turns = .env (.viewWrite view i.reg value 0) :: rest → s.impl.havePMUv3 = true →
    s.ctx.CheckPasses s.impl .mrc → s.ctx.InReach s.impl i.reg →
    ∃ s₁ s₂, step s = .next s₁ ∧ exec i s₁ = .next s₂ ∧ ∀ b : Nat, b < 32 →
      (s₂.readX i.rt).getLsbD b =
        (if evtReadbackUnknown s.impl (evtNum s.impl value) = true ∧ (evtMask s.impl).getLsbD b = true then
          (Config.unknownBits s.draws).getLsbD b
        else if (res0Mask s.impl).getLsbD b = true ∧ s.impl.res0Stateful = false then false
        else value.getLsbD b)

/-- R40, R179 (with R141 to R143, R150): whether an occurrence of a supported, selected event on the controlling PE
is counted in a state is decided by that state's own Exception level and Security state. Which content governs, and
what its UNKNOWN bits give, are the model's own (logs 8 and 14). -/
def Obligations.CountingReadsTheCurrentContext : Prop :=
  ∀ (s : State) (o : Occurrence) (n : Fin 31), o.origin = .controllingPE →
    o.event = evtNum s.impl (s.governingValue o n) → EventRange.covers s.impl.supportedEvents o.event = true →
    (s.ctx.el = .el0 → (s.counted o n = true ↔
      if s.impl.haveEL3 = true ∧ s.ctx.secure = false then
        (s.governingValue o n).getLsbD 28 = (s.governingValue o n).getLsbD 30
      else (s.governingValue o n).getLsbD 30 = false)) ∧
    (s.ctx.el = .el1 → (s.counted o n = true ↔
      if s.impl.haveEL3 = true ∧ s.ctx.secure = false then
        (s.governingValue o n).getLsbD 29 = (s.governingValue o n).getLsbD 31
      else (s.governingValue o n).getLsbD 31 = false)) ∧
    (s.ctx.el = .el2 → s.impl.haveEL2 = true → s.ctx.secure = false →
      (s.counted o n = true ↔ (s.governingValue o n).getLsbD 27 = true))
end

