-- ==== Sys2Proof/Laws/Access.lean ====
section
/-! SUPPORT. The access checks: what the checks and the range rules can answer, in the fields of the spec, and that the
outcome performed is always one of those admitted. -/

namespace Sys2Proof.Machine

/-! ### Bits and Booleans -/

/-- A one-bit field that is not 0 is 1. -/
theorem Bit.eq_one_of_ne_zero {b : Bit} (h : b ≠ 0) : b = 1 := by revert b; decide

/-- A one-bit field that is not 1 is 0. -/
theorem Bit.eq_zero_of_ne_one {b : Bit} (h : b ≠ 1) : b = 0 := by revert b; decide

/-- The two-bit string `a:b` is `0b11` when both bits are 1. -/
theorem Bit.append_eq_ones (a b : Bit) : (a ++ b : BitVec 2) = 0b11#2 ↔ a = 1 ∧ b = 1 := by revert a b; decide

/-! ### The guards of the check, in the spec's fields -/

@[simp] theorem el2IsA64_iff (x : Ctx) : el2IsA64 x = true ↔ x.el2Enabled = true ∧ x.a32EL2 = false := by
  simp [el2IsA64]

@[simp] theorem el2IsA32_iff (x : Ctx) : el2IsA32 x = true ↔ x.el2Enabled = true ∧ x.a32EL2 = true := by
  simp [el2IsA32]

@[simp] theorem el3TrapsTPM_iff (c : Impl) (x : Ctx) : el3TrapsTPM c x = true ↔ x.TrapsToEL3 c := by
  simp [el3TrapsTPM, and_assoc]

theorem fgtTraps_iff (c : Impl) (x : Ctx) (k : Kind) : fgtTraps c x k = true ↔ x.FineGrainedTrap c k := by
  cases k <;> cases h3 : c.haveEL3 <;> cases hf : c.haveFGT <;>
    simp [fgtTraps, fgtBit, Ctx.fineGrainedBit, h3, hf, Bit.append_eq_ones, and_assoc]

theorem permitted_iff (x : Ctx) : permitted x = true ↔ (x.el = .el0 → ¬x.UserDisabled) := by
  have hb : ∀ b : Bit, b = 1#1 ↔ ¬b = 0#1 := by decide
  cases h1 : x.a32EL1 <;> cases he : x.el <;> simp [permitted, Ctx.UserDisabled, h1, he, hb]

theorem fgtCase_iff (c : Impl) (x : Ctx) : fgtCase c x = true ↔ x.FineGrainedRange c := by
  simp only [fgtCase, Bool.and_eq_true, permitted_iff, Bool.not_eq_true', beq_iff_eq]
  constructor
  · rintro ⟨⟨⟨⟨h1, h2⟩, h3⟩, h4⟩, h5⟩; exact ⟨h1, h2, h3, h4, h5 h4⟩
  · rintro ⟨h1, h2, h3, h4, h5⟩; exact ⟨⟨⟨⟨h1, h2⟩, h3⟩, h4⟩, fun _ => h5⟩

/-- The number of accessible counters (R108), by the two cases of the rule. -/
theorem accessible_limited {c : Impl} {x : Ctx} (h : x.LimitedByEL2) : accessible c x = x.hpmnInForce := by
  obtain ⟨h1, h2⟩ := h
  rcases h2 with h2 | h2 <;> simp [accessible, Ctx.hpmnInForce, h1, h2]

theorem accessible_unlimited {c : Impl} {x : Ctx} (h : ¬x.LimitedByEL2) : accessible c x = c.numCounters.val := by
  unfold accessible
  rw [if_neg]
  simpa [Ctx.LimitedByEL2] using h

/-- The condition of the trap member of R111. -/
theorem rangeMayTrap_iff (c : Impl) (x : Ctx) (n : Fin 31) :
    rangeMayTrap c x n = true ↔
      x.el2Enabled = true ∧ n.val < c.numCounters.val ∧ (x.el = .el1 ∨ (x.el = .el0 ∧ ¬x.UserDisabled)) := by
  simp only [rangeMayTrap, Bool.and_eq_true, Bool.or_eq_true, decide_eq_true_eq, beq_iff_eq, permitted_iff, and_assoc]
  constructor
  · rintro ⟨h1, h2, h3 | ⟨h3, h4⟩⟩
    · exact ⟨h1, h2, .inl h3⟩
    · exact ⟨h1, h2, .inr ⟨h3, h4 h3⟩⟩
  · rintro ⟨h1, h2, h3 | ⟨h3, h4⟩⟩
    · exact ⟨h1, h2, .inl h3⟩
    · exact ⟨h1, h2, .inr ⟨h3, fun _ => h4⟩⟩

/-- At EL0 the user enable is the first of the checks: a disabled access raises one of its three refusals (R102). -/
theorem checkEL0_disabled {c : Impl} {x : Ctx} {k : Kind} (h : x.UserDisabled) :
    checkEL0 c x k =
      if x.el2Enabled = true ∧ x.a32EL2 = false ∧ x.hcrEL2TGE = 1 then .raise (.trapA64 .el2 0x03)
      else if x.a32EL1 = false then .raise (.trapA64 .el1 0x03)
      else if x.el2Enabled = true ∧ x.a32EL2 = true ∧ x.hcrTGE = 1 then .raise (.hypTrap 0x00)
      else .raise .undefined := by
  rcases h with ⟨h1, h2⟩ | ⟨h1, h2⟩ <;> simp [checkEL0, h1, h2, and_assoc]

/-- At EL0 a permitted access meets the traps in their order (R102 arms 0c to 0g). -/
theorem checkEL0_enabled {c : Impl} {x : Ctx} {k : Kind} (h : ¬x.UserDisabled) :
    checkEL0 c x k =
      if x.FineGrainedTrap c k then .raise (.trapA64 .el2 0x03)
      else if x.TrapsToA64EL2 then .raise (.trapA64 .el2 0x03)
      else if x.TrapsToHyp then .raise (.hypTrap 0x03)
      else if x.TrapsToEL3 c then .raise (.trapA64 .el3 0x03)
      else .proceed := by
  have h1 : ¬(x.a32EL1 = false ∧ x.pmuserenrEL0EN = 0#1) := fun e => h (.inl e)
  have h2 : ¬(x.a32EL1 = true ∧ x.pmuserenrEN = 0#1) := fun e => h (.inr e)
  simp [checkEL0, fgtTraps_iff, h1, h2, and_assoc]
  rfl

theorem checkEL1_eq (c : Impl) (x : Ctx) :
    checkEL1 c x =
      if x.TrapsToA64EL2 then .raise (.trapA64 .el2 0x03)
      else if x.TrapsToHyp then .raise (.hypTrap 0x03)
      else if x.TrapsToEL3 c then .raise (.trapA64 .el3 0x03)
      else .proceed := by
  simp [checkEL1, and_assoc]
  rfl

theorem checkEL2_eq (c : Impl) (x : Ctx) :
    checkEL2 c x = if x.TrapsToEL3 c then .raise (.trapA64 .el3 0x03) else .proceed := by
  simp [checkEL2]

/-- The check proceeds exactly when no arm of the current Exception level fires. -/
theorem accessCheck_proceed_iff (c : Impl) (x : Ctx) (k : Kind) :
    accessCheck c x k = .proceed ↔ x.CheckPasses c k := by
  cases he : x.el with
  | el0 =>
    by_cases hd : x.UserDisabled
    · simp only [accessCheck, he, checkEL0_disabled hd]
      constructor
      · intro h; exfalso; revert h; split_ifs <;> simp
      · intro h; exact absurd hd (h.1 he).1
    · simp only [accessCheck, he, checkEL0_enabled hd]
      constructor
      · intro h
        by_cases h1 : x.FineGrainedTrap c k
        · rw [if_pos h1] at h; cases h
        by_cases h2 : x.TrapsToA64EL2
        · rw [if_neg h1, if_pos h2] at h; cases h
        by_cases h3 : x.TrapsToHyp
        · rw [if_neg h1, if_neg h2, if_pos h3] at h; cases h
        by_cases h4 : x.TrapsToEL3 c
        · rw [if_neg h1, if_neg h2, if_neg h3, if_pos h4] at h; cases h
        exact ⟨fun _ => ⟨hd, h1⟩, fun _ => ⟨h2, h3⟩, fun _ => h4⟩
      · rintro ⟨h1, h2, h3⟩
        rw [if_neg (h1 he).2, if_neg (h2 (.inl he)).1, if_neg (h2 (.inl he)).2, if_neg (h3 (by simp [he]))]
  | el1 =>
    simp only [accessCheck, he, checkEL1_eq]
    constructor
    · intro h
      by_cases h2 : x.TrapsToA64EL2
      · rw [if_pos h2] at h; cases h
      by_cases h3 : x.TrapsToHyp
      · rw [if_neg h2, if_pos h3] at h; cases h
      by_cases h4 : x.TrapsToEL3 c
      · rw [if_neg h2, if_neg h3, if_pos h4] at h; cases h
      exact ⟨fun e => by simp [he] at e, fun _ => ⟨h2, h3⟩, fun _ => h4⟩
    · rintro ⟨_, h2, h3⟩
      rw [if_neg (h2 (.inr he)).1, if_neg (h2 (.inr he)).2, if_neg (h3 (by simp [he]))]
  | el2 =>
    simp only [accessCheck, he, checkEL2_eq]
    constructor
    · intro h
      by_cases h4 : x.TrapsToEL3 c
      · rw [if_pos h4] at h; cases h
      exact ⟨fun e => by simp [he] at e, fun e => by simp [he] at e, fun _ => h4⟩
    · rintro ⟨_, _, h3⟩
      rw [if_neg (h3 (by simp [he]))]
  | el3 => simp [accessCheck, checkEL3, Ctx.CheckPasses, he]

/-! ### The range rules -/

/-- A register in reach is in range (R109). -/
theorem rangeBehaviours_inReach {c : Impl} {x : Ctx} {n : Fin 31} (h : x.InReach c n) :
    rangeBehaviours c x n = [.inRange] := by
  obtain ⟨h1, h2, h3⟩ := h
  have ha : n.val < accessible c x := by
    by_cases hl : x.LimitedByEL2
    · rw [accessible_limited hl]; exact h2 hl
    · rw [accessible_unlimited hl]; exact h1
  have hf : ¬(fgtCase c x = true ∧ x.mdcrEL2HPMN ≤ n.val) := fun e => by
    have := h3 ((fgtCase_iff c x).1 e.1); omega
  have hn : ¬ c.numCounters.val ≤ n.val := by omega
  unfold rangeBehaviours
  rw [if_neg (by simp [hn]), if_neg (by simpa using hf), if_neg (by omega), if_pos h1]

/-- Only a register in reach is in range, and then that is the only behaviour. -/
theorem inReach_of_inRange_mem {c : Impl} {x : Ctx} {n : Fin 31} (h : Behaviour.inRange ∈ rangeBehaviours c x n) :
    x.InReach c n := by
  unfold rangeBehaviours at h
  split at h
  · simp at h
  · rename_i h1
    split at h
    · simp at h
    · rename_i h2
      split at h
      · exfalso
        revert h
        unfold unconditionalBehaviours
        split <;> simp
      · rename_i h3
        split at h
        · rename_i h4
          refine ⟨h4, fun hl => ?_, fun hf => ?_⟩
          · rw [accessible_limited hl] at h3; omega
          · have := (fgtCase_iff c x).2 hf
            simp only [this, Bool.true_and, decide_eq_true_eq, not_le] at h2
            exact h2
        · simp [unconditionalBehaviours] at h

theorem rangeBehaviours_ne_nil (c : Impl) (x : Ctx) (n : Fin 31) : rangeBehaviours c x n ≠ [] := by
  unfold rangeBehaviours unconditionalBehaviours
  split_ifs <;> simp

/-! ### Combining and choosing -/

theorem combine_ne_nil {a : Check} {b : List Behaviour} (h : b ≠ []) : combine a b ≠ [] := by
  unfold combine
  split
  · exact h
  · split <;> simp

theorem accessBehaviours_ne_nil (c : Impl) (x : Ctx) (k : Kind) (n : Fin 31) : accessBehaviours c x k n ≠ [] := by
  unfold accessBehaviours
  split
  · exact combine_ne_nil (rangeBehaviours_ne_nil c x n)
  · simp

/-- The behaviour chosen is one of those admitted. -/
theorem chooseBehaviour_mem {k : Nat} {bs : List Behaviour} (h : bs ≠ []) : chooseBehaviour k bs ∈ bs := by
  match bs with
  | [] => exact absurd rfl h
  | [b] => simp [chooseBehaviour]
  | b :: b' :: bs =>
    have hlt : Config.outcomeChoice k % (bs.length + 2) < (b :: b' :: bs).length := by
      simpa using Nat.mod_lt _ (Nat.succ_pos _)
    rw [chooseBehaviour, List.getElem?_eq_getElem hlt, Option.getD_some]
    exact List.getElem_mem hlt

/-- The access's behaviour is one the rules admit. -/
theorem State.behaviour_mem (s : State) (k : Kind) (n : Fin 31) :
    s.behaviour k n ∈ accessBehaviours s.impl s.ctx k n :=
  chooseBehaviour_mem (accessBehaviours_ne_nil _ _ _ _)

/-- One admitted behaviour is the behaviour. -/
theorem State.behaviour_of_singleton {s : State} {k : Kind} {n : Fin 31} {b : Behaviour}
    (h : accessBehaviours s.impl s.ctx k n = [b]) : s.behaviour k n = b := by
  rw [State.behaviour, h, chooseBehaviour]

/-- In reach and past the checks, the access transfers. -/
theorem State.behaviour_inRange {s : State} {k : Kind} {n : Fin 31} (hp : s.impl.havePMUv3 = true)
    (hc : s.ctx.CheckPasses s.impl k) (hr : s.ctx.InReach s.impl n) : s.behaviour k n = .inRange := by
  apply State.behaviour_of_singleton
  rw [accessBehaviours, if_pos hp, (accessCheck_proceed_iff _ _ _).2 hc, rangeBehaviours_inReach hr, combine]

/-- In reach, a check that raises decides (R112). -/
theorem State.behaviour_raises {s : State} {k : Kind} {n : Fin 31} {r : Raise} (hp : s.impl.havePMUv3 = true)
    (hc : accessCheck s.impl s.ctx k = .raise r) (hr : s.ctx.InReach s.impl n) : s.behaviour k n = .raise r := by
  apply State.behaviour_of_singleton
  rw [accessBehaviours, if_pos hp, hc, rangeBehaviours_inReach hr, combine, if_pos rfl]

/-- Only a register in reach, past the checks, is transferred. -/
theorem State.inReach_of_behaviour {s : State} {k : Kind} {n : Fin 31} (h : s.behaviour k n = .inRange) :
    s.impl.havePMUv3 = true ∧ s.ctx.CheckPasses s.impl k ∧ s.ctx.InReach s.impl n := by
  have hm := s.behaviour_mem k n
  rw [h, accessBehaviours] at hm
  split at hm
  · rename_i hp
    refine ⟨hp, ?_⟩
    unfold combine at hm
    split at hm
    · rename_i hc
      exact ⟨(accessCheck_proceed_iff _ _ _).1 hc, inReach_of_inRange_mem hm⟩
    · split at hm
      · simp at hm
      · rename_i hne
        have hm' : Behaviour.inRange ∈ rangeBehaviours s.impl s.ctx n := by simpa using hm
        exact absurd (rangeBehaviours_inReach (inReach_of_inRange_mem hm')) hne
  · simp at hm

end Sys2Proof.Machine
end

