-- ==== Sys2Proof/Laws/State.lean ====
section
/-! SUPPORT. The small lemmas of the state: one per field per update, and what reading a register or `x[t]` gives
after each update. -/

namespace Sys2Proof.Machine

variable (s : State)

/-! ### writeX -/

@[simp] theorem State.writeX_impl (t : BitVec 4) (v : Word) : (s.writeX t v).impl = s.impl := rfl
@[simp] theorem State.writeX_ctx (t : BitVec 4) (v : Word) : (s.writeX t v).ctx = s.ctx := rfl
@[simp] theorem State.writeX_pmevtyper (t : BitVec 4) (v : Word) : (s.writeX t v).pmevtyper = s.pmevtyper := rfl
@[simp] theorem State.writeX_unk (t : BitVec 4) (v : Word) : (s.writeX t v).unk = s.unk := rfl
@[simp] theorem State.writeX_superseded (t : BitVec 4) (v : Word) : (s.writeX t v).superseded = s.superseded := rfl
@[simp] theorem State.writeX_gpr (t : BitVec 4) (v : Word) : (s.writeX t v).gpr = s.gpr.setIfInBounds t.toNat v := rfl
@[simp] theorem State.writeX_pc (t : BitVec 4) (v : Word) : (s.writeX t v).pc = s.pc := rfl
@[simp] theorem State.writeX_iset (t : BitVec 4) (v : Word) : (s.writeX t v).iset = s.iset := rfl
@[simp] theorem State.writeX_mem (t : BitVec 4) (v : Word) : (s.writeX t v).mem = s.mem := rfl
@[simp] theorem State.writeX_turns (t : BitVec 4) (v : Word) : (s.writeX t v).turns = s.turns := rfl
@[simp] theorem State.writeX_draws (t : BitVec 4) (v : Word) : (s.writeX t v).draws = s.draws := rfl

/-! ### setReg -/

@[simp] theorem State.setReg_impl (n : Fin 31) (r : EvReg) : (s.setReg n r).impl = s.impl := rfl
@[simp] theorem State.setReg_ctx (n : Fin 31) (r : EvReg) : (s.setReg n r).ctx = s.ctx := rfl
@[simp] theorem State.setReg_pmevtyper (n : Fin 31) (r : EvReg) : (s.setReg n r).pmevtyper = s.pmevtyper.set n r.value := rfl
@[simp] theorem State.setReg_unk (n : Fin 31) (r : EvReg) : (s.setReg n r).unk = s.unk.set n r.unknown := rfl
@[simp] theorem State.setReg_superseded (n : Fin 31) (r : EvReg) : (s.setReg n r).superseded = s.superseded.set n (s.reg n :: s.superseded[n]) := rfl
@[simp] theorem State.setReg_gpr (n : Fin 31) (r : EvReg) : (s.setReg n r).gpr = s.gpr := rfl
@[simp] theorem State.setReg_pc (n : Fin 31) (r : EvReg) : (s.setReg n r).pc = s.pc := rfl
@[simp] theorem State.setReg_iset (n : Fin 31) (r : EvReg) : (s.setReg n r).iset = s.iset := rfl
@[simp] theorem State.setReg_mem (n : Fin 31) (r : EvReg) : (s.setReg n r).mem = s.mem := rfl
@[simp] theorem State.setReg_turns (n : Fin 31) (r : EvReg) : (s.setReg n r).turns = s.turns := rfl
@[simp] theorem State.setReg_draws (n : Fin 31) (r : EvReg) : (s.setReg n r).draws = s.draws := rfl

/-! ### advance -/

@[simp] theorem State.advance_impl : (s.advance).impl = s.impl := rfl
@[simp] theorem State.advance_ctx : (s.advance).ctx = s.ctx := rfl
@[simp] theorem State.advance_pmevtyper : (s.advance).pmevtyper = s.pmevtyper := rfl
@[simp] theorem State.advance_unk : (s.advance).unk = s.unk := rfl
@[simp] theorem State.advance_superseded : (s.advance).superseded = s.superseded := rfl
@[simp] theorem State.advance_gpr : (s.advance).gpr = s.gpr := rfl
@[simp] theorem State.advance_pc : (s.advance).pc = s.pc + 4 := rfl
@[simp] theorem State.advance_iset : (s.advance).iset = s.iset := rfl
@[simp] theorem State.advance_mem : (s.advance).mem = s.mem := rfl
@[simp] theorem State.advance_turns : (s.advance).turns = s.turns := rfl
@[simp] theorem State.advance_draws : (s.advance).draws = s.draws + 1 := rfl

/-! ### withPE -/

@[simp] theorem State.withPE_impl (p : PE) : (s.withPE p).impl = s.impl := rfl
@[simp] theorem State.withPE_ctx (p : PE) : (s.withPE p).ctx = p.ctx := rfl
@[simp] theorem State.withPE_pmevtyper (p : PE) : (s.withPE p).pmevtyper = s.pmevtyper := rfl
@[simp] theorem State.withPE_unk (p : PE) : (s.withPE p).unk = s.unk := rfl
@[simp] theorem State.withPE_superseded (p : PE) : (s.withPE p).superseded = s.superseded := rfl
@[simp] theorem State.withPE_gpr (p : PE) : (s.withPE p).gpr = p.gpr := rfl
@[simp] theorem State.withPE_pc (p : PE) : (s.withPE p).pc = p.pc := rfl
@[simp] theorem State.withPE_iset (p : PE) : (s.withPE p).iset = p.iset := rfl
@[simp] theorem State.withPE_mem (p : PE) : (s.withPE p).mem = s.mem := rfl
@[simp] theorem State.withPE_turns (p : PE) : (s.withPE p).turns = s.turns := rfl
@[simp] theorem State.withPE_draws (p : PE) : (s.withPE p).draws = s.draws := rfl

/-! ### resetBank -/

@[simp] theorem State.resetBank_impl : (s.resetBank).impl = s.impl := rfl
@[simp] theorem State.resetBank_ctx : (s.resetBank).ctx = s.ctx := rfl
@[simp] theorem State.resetBank_pmevtyper : (s.resetBank).pmevtyper = s.pmevtyper := rfl
@[simp] theorem State.resetBank_unk : (s.resetBank).unk = Vector.replicate 31 (resetUnknown s.impl) := rfl
@[simp] theorem State.resetBank_superseded : (s.resetBank).superseded = Vector.replicate 31 [] := rfl
@[simp] theorem State.resetBank_gpr : (s.resetBank).gpr = s.gpr := rfl
@[simp] theorem State.resetBank_pc : (s.resetBank).pc = s.pc := rfl
@[simp] theorem State.resetBank_iset : (s.resetBank).iset = s.iset := rfl
@[simp] theorem State.resetBank_mem : (s.resetBank).mem = s.mem := rfl
@[simp] theorem State.resetBank_turns : (s.resetBank).turns = s.turns := rfl
@[simp] theorem State.resetBank_draws : (s.resetBank).draws = s.draws := rfl

/-! ### withTurns -/

@[simp] theorem State.withTurns_impl (l : List Turn) : (({ s with turns := l } : State)).impl = s.impl := rfl
@[simp] theorem State.withTurns_ctx (l : List Turn) : (({ s with turns := l } : State)).ctx = s.ctx := rfl
@[simp] theorem State.withTurns_pmevtyper (l : List Turn) : (({ s with turns := l } : State)).pmevtyper = s.pmevtyper := rfl
@[simp] theorem State.withTurns_unk (l : List Turn) : (({ s with turns := l } : State)).unk = s.unk := rfl
@[simp] theorem State.withTurns_superseded (l : List Turn) : (({ s with turns := l } : State)).superseded = s.superseded := rfl
@[simp] theorem State.withTurns_gpr (l : List Turn) : (({ s with turns := l } : State)).gpr = s.gpr := rfl
@[simp] theorem State.withTurns_pc (l : List Turn) : (({ s with turns := l } : State)).pc = s.pc := rfl
@[simp] theorem State.withTurns_iset (l : List Turn) : (({ s with turns := l } : State)).iset = s.iset := rfl
@[simp] theorem State.withTurns_mem (l : List Turn) : (({ s with turns := l } : State)).mem = s.mem := rfl
@[simp] theorem State.withTurns_turns (l : List Turn) : (({ s with turns := l } : State)).turns = l := rfl
@[simp] theorem State.withTurns_draws (l : List Turn) : (({ s with turns := l } : State)).draws = s.draws := rfl

/-! ### Reading after an update -/

@[simp] theorem State.reg_value (n : Fin 31) : (s.reg n).value = s.pmevtyper[n] := rfl
@[simp] theorem State.reg_unknown (n : Fin 31) : (s.reg n).unknown = s.unk[n] := rfl

/-- A register depends on the bank alone. -/
theorem State.reg_congr {s t : State} {n : Fin 31} (hp : t.pmevtyper = s.pmevtyper) (hu : t.unk = s.unk) :
    t.reg n = s.reg n := by simp [State.reg, hp, hu]

@[simp] theorem State.reg_writeX (t : BitVec 4) (v : Word) (n : Fin 31) : (s.writeX t v).reg n = s.reg n := rfl
@[simp] theorem State.reg_advance (n : Fin 31) : s.advance.reg n = s.reg n := rfl
@[simp] theorem State.reg_withPE (p : PE) (n : Fin 31) : (s.withPE p).reg n = s.reg n := rfl
@[simp] theorem State.reg_withTurns (l : List Turn) (n : Fin 31) : ({ s with turns := l } : State).reg n = s.reg n := rfl

@[simp] theorem State.reg_setReg_same (n : Fin 31) (r : EvReg) : (s.setReg n r).reg n = r := by
  simp [State.reg]

theorem State.reg_setReg_other {m n : Fin 31} (h : m ≠ n) (r : EvReg) : (s.setReg n r).reg m = s.reg m := by
  have h' : n.val ≠ m.val := fun e => h (Fin.ext e.symm)
  simp [State.reg, Vector.getElem_set_ne, h']

@[simp] theorem State.reg_resetBank (n : Fin 31) :
    s.resetBank.reg n = ⟨s.pmevtyper[n], resetUnknown s.impl⟩ := by simp [State.reg]

@[simp] theorem State.readX_setReg (n : Fin 31) (r : EvReg) (t : BitVec 4) : (s.setReg n r).readX t = s.readX t := rfl
@[simp] theorem State.readX_advance (t : BitVec 4) : s.advance.readX t = s.readX t := rfl
@[simp] theorem State.readX_withTurns (l : List Turn) (t : BitVec 4) :
    ({ s with turns := l } : State).readX t = s.readX t := rfl

/-- `x[t]` holds what was written to it. -/
theorem State.readX_writeX_same {t : BitVec 4} (h : t ≠ 15#4) (v : Word) : (s.writeX t v).readX t = v := by
  have : t.toNat < 15 := by have := t.isLt; have : t.toNat ≠ 15 := fun e => h (BitVec.eq_of_toNat_eq (by simpa using e)); omega
  simp [State.readX, State.writeX, this]

/-- A write of `x[t]` leaves every other general register. -/
theorem State.readX_writeX_other {j t : BitVec 4} (h : j ≠ t) (v : Word) : (s.writeX t v).readX j = s.readX j := by
  have : t.toNat ≠ j.toNat := fun e => h (BitVec.eq_of_toNat_eq e.symm)
  simp [State.readX, State.writeX, this]

end Sys2Proof.Machine
end

