-- ==== Sys2Proof/Laws/Counting.lean ====
section
/-! SUPPORT. What counts, said once: the three parts of the predicate, the rule that filters at each Exception level of
the context, and the content that governs an occurrence. -/

namespace Sys2Proof.Machine

variable {c : Impl} {x : Ctx} {o : Occurrence} {n : Fin 31} {v : Word}

/-! ### The filter, by the context's Exception level (R140) -/

theorem filterAllows_el0 (ho : o.origin = .controllingPE) (hx : x.el = .el0) :
    filterAllows c x o n v = allowsEL0 c v x.secure := by simp only [filterAllows, ho, hx]

theorem filterAllows_el1 (ho : o.origin = .controllingPE) (hx : x.el = .el1) :
    filterAllows c x o n v = allowsEL1 c v x.secure := by simp only [filterAllows, ho, hx]

theorem filterAllows_el2 (ho : o.origin = .controllingPE) (hx : x.el = .el2) :
    filterAllows c x o n v = allowsEL2 c x.secure o n v := by simp only [filterAllows, ho, hx]

theorem filterAllows_el3 (ho : o.origin = .controllingPE) (hx : x.el = .el3) :
    filterAllows c x o n v = allowsEL3 c o n v := by simp only [filterAllows, ho, hx]

/-- An occurrence is counted when multithreading, the filter of the current context and the selection all say so. -/
theorem State.counted_iff (s : State) (o : Occurrence) (n : Fin 31) :
    s.counted o n = true ↔ originCounted s.impl (s.governingValue o n) o.origin = true ∧
      filterAllows s.impl s.ctx o n (s.governingValue o n) = true ∧
      selectedEvent s.impl o n (s.governingValue o n) = some o.event := by
  simp only [State.counted, Bool.and_eq_true, beq_iff_eq, and_assoc]

/-! ### The content that governs (R203) -/

/-- What governs an occurrence is among the contents that may. -/
theorem State.governingReg_mem (s : State) (o : Occurrence) (n : Fin 31) : s.governingReg o n ∈ s.governing n := by
  unfold State.governingReg
  split
  · exact List.mem_cons_self
  · have hk : Config.windowChoice o.id n.val % (s.governing n).length < (s.governing n).length :=
      Nat.mod_lt _ (by simp only [State.governing, List.length_cons]; omega)
    rw [List.getElem?_eq_getElem hk]
    exact List.getElem_mem hk

/-- With nothing replaced, the current content governs. -/
theorem State.governingReg_of_settled {s : State} (o : Occurrence) {n : Fin 31} (hs : s.superseded[n] = []) :
    s.governingReg o n = s.reg n := by simp only [State.governingReg, hs]

/-- With every bit known and nothing replaced, the value that governs is the one held. -/
theorem State.governingValue_of_known {s : State} (o : Occurrence) (n : Fin 31) (hs : s.superseded[n] = [])
    (hu : s.unk[n] = 0) : s.governingValue o n = s.pmevtyper[n] := by
  apply BitVec.eq_of_getLsbD_eq
  intro b hb
  simp only [State.governingValue, s.governingReg_of_settled o hs, EvReg.resolve, State.reg, hu, BitVec.getLsbD_or,
    BitVec.getLsbD_and, BitVec.getLsbD_not, hb, decide_true, Bool.true_and]
  simp

end Sys2Proof.Machine
end

