-- ==== Sys2Proof/Laws/Data.lean ====
section
/-! SUPPORT. The data of an access: masks bit by bit, the event number, the value read and the value written. -/

namespace Sys2Proof.Machine

/-- The all-ones word. -/
theorem word_ones : (0xFFFFFFFF#32 : Word) = BitVec.allOnes 32 := by decide

/-- The bits a register holds are its RW bits, and all of them when RES0 bits hold state (R34, R116). -/
theorem keepMask_getLsbD {c : Impl} {b : Nat} (hb : b < 32) :
    (keepMask c).getLsbD b = (c.res0Stateful || (rwMask c).getLsbD b) := by
  cases h : c.res0Stateful
  · simp [keepMask, h]
  · rw [keepMask, h, if_pos rfl, word_ones, BitVec.getLsbD_allOnes]
    simp [hb]

/-- RES0 bits are those that are not RW (R33). -/
theorem res0Mask_getLsbD {c : Impl} {b : Nat} (hb : b < 32) :
    (res0Mask c).getLsbD b = !(rwMask c).getLsbD b := by
  simp [res0Mask, hb]

/-- What a reset marks UNKNOWN is every bit the register holds (R36). -/
theorem resetUnknown_eq_keepMask (c : Impl) : resetUnknown c = keepMask c := by
  cases h : c.res0Stateful
  · simp [resetUnknown, keepMask, maskWhen, h]
  · simp [resetUnknown, keepMask, maskWhen, h, res0Mask, word_ones]

/-- The event-number bits are RW bits (R33). -/
theorem evtMask_and_rwMask (c : Impl) : evtMask c &&& rwMask c = evtMask c := by
  cases h1 : c.haveEL3 <;> cases h2 : c.haveEL2 <;> cases h3 : c.haveMTPMU <;> cases h4 : c.havePMUv3p1 <;>
    simp [evtMask, rwMask, maskWhen, h1, h2, h3, h4]

/-- The event number is the value under `EVTMASK` (R116, R149). -/
theorem evtNum_eq_masked (c : Impl) (v : Word) : evtNum c v = BitVec.ofNat 16 (v &&& evtMask c).toNat := by
  unfold evtNum evtMask fieldEvtHigh fieldEvtLow
  apply BitVec.eq_of_getLsbD_eq
  intro i hi
  cases c.havePMUv3p1 <;> interval_cases i <;>
    simp only [BitVec.getLsbD_append, BitVec.getLsbD_extractLsb', BitVec.getLsbD_ofNat, BitVec.testBit_toNat,
      BitVec.getLsbD_and] <;> simp

/-- The value a read returns, bit by bit (R115). -/
theorem readValue_getLsbD (c : Impl) (r : EvReg) (d : Word) {b : Nat} (hb : b < 32) :
    (readValue c r d).getLsbD b =
      if r.unknown.getLsbD b then d.getLsbD b
      else if (res0Mask c).getLsbD b = true ∧ c.res0Stateful = false then false
      else r.value.getLsbD b := by
  rw [res0Mask_getLsbD hb]
  simp only [readValue, BitVec.getLsbD_or, BitVec.getLsbD_and, BitVec.getLsbD_not, keepMask_getLsbD hb, hb]
  cases r.unknown.getLsbD b <;> cases c.res0Stateful <;> cases (rwMask c).getLsbD b <;> simp

/-- The value a read returns is fixed, whatever is drawn, under a mask that holds no UNKNOWN bit (R35, R115). -/
theorem readValue_fixed (c : Impl) (r : EvReg) (d : Word) {m : Word} (h : r.unknown &&& m = 0) :
    readValue c r d &&& m = r.value &&& keepMask c &&& m := by
  apply BitVec.eq_of_getLsbD_eq
  intro b hb
  have hb' : (r.unknown &&& m).getLsbD b = false := by rw [h]; simp
  simp only [BitVec.getLsbD_and] at hb'
  simp only [readValue, BitVec.getLsbD_or, BitVec.getLsbD_and, BitVec.getLsbD_not, hb, decide_true, Bool.true_and]
  cases hu : r.unknown.getLsbD b <;> cases hm : m.getLsbD b <;> simp_all

/-- A content with no UNKNOWN bit reads as its held bits (R115). -/
theorem readValue_known (c : Impl) (v d : Word) : readValue c ⟨v, 0⟩ d = v &&& keepMask c := by
  apply BitVec.eq_of_getLsbD_eq
  intro b hb
  simp only [readValue, BitVec.getLsbD_or, BitVec.getLsbD_and, BitVec.getLsbD_not, hb, decide_true, Bool.true_and]
  simp

end Sys2Proof.Machine
end

