-- ==== Sys2Proof/Laws/PerInstr.lean ====
section
/-! SUPPORT. Per-instruction family `RowOfFields`: the decoder's table of rows gives back an instruction from its own
fields (30_encoding.md R81 to R83), one lemma per constructor. -/

/-- The row that the decoder's table holds for the instruction's fields is the instruction. -/
def Sys2Proof.Laws.RowOfFields.Statement (i : Sys2Proof.Instr) : Prop :=
  Sys2Proof.rowOfFields i.fields = some i

theorem Sys2Proof.Laws.RowOfFields.a32MrcPmevtyper0 (cond rt : BitVec 4) :
    Statement (.a32MrcPmevtyper0 cond rt) := rfl
theorem Sys2Proof.Laws.RowOfFields.a32MrcPmevtyper1 (cond rt : BitVec 4) :
    Statement (.a32MrcPmevtyper1 cond rt) := rfl
theorem Sys2Proof.Laws.RowOfFields.a32MrcPmevtyper2 (cond rt : BitVec 4) :
    Statement (.a32MrcPmevtyper2 cond rt) := rfl
theorem Sys2Proof.Laws.RowOfFields.a32MrcPmevtyper3 (cond rt : BitVec 4) :
    Statement (.a32MrcPmevtyper3 cond rt) := rfl
theorem Sys2Proof.Laws.RowOfFields.a32MrcPmevtyper4 (cond rt : BitVec 4) :
    Statement (.a32MrcPmevtyper4 cond rt) := rfl
theorem Sys2Proof.Laws.RowOfFields.a32MrcPmevtyper5 (cond rt : BitVec 4) :
    Statement (.a32MrcPmevtyper5 cond rt) := rfl
theorem Sys2Proof.Laws.RowOfFields.a32MrcPmevtyper6 (cond rt : BitVec 4) :
    Statement (.a32MrcPmevtyper6 cond rt) := rfl
theorem Sys2Proof.Laws.RowOfFields.a32MrcPmevtyper7 (cond rt : BitVec 4) :
    Statement (.a32MrcPmevtyper7 cond rt) := rfl
theorem Sys2Proof.Laws.RowOfFields.a32MrcPmevtyper8 (cond rt : BitVec 4) :
    Statement (.a32MrcPmevtyper8 cond rt) := rfl
theorem Sys2Proof.Laws.RowOfFields.a32MrcPmevtyper9 (cond rt : BitVec 4) :
    Statement (.a32MrcPmevtyper9 cond rt) := rfl
theorem Sys2Proof.Laws.RowOfFields.a32MrcPmevtyper10 (cond rt : BitVec 4) :
    Statement (.a32MrcPmevtyper10 cond rt) := rfl
theorem Sys2Proof.Laws.RowOfFields.a32MrcPmevtyper11 (cond rt : BitVec 4) :
    Statement (.a32MrcPmevtyper11 cond rt) := rfl
theorem Sys2Proof.Laws.RowOfFields.a32MrcPmevtyper12 (cond rt : BitVec 4) :
    Statement (.a32MrcPmevtyper12 cond rt) := rfl
theorem Sys2Proof.Laws.RowOfFields.a32MrcPmevtyper13 (cond rt : BitVec 4) :
    Statement (.a32MrcPmevtyper13 cond rt) := rfl
theorem Sys2Proof.Laws.RowOfFields.a32MrcPmevtyper14 (cond rt : BitVec 4) :
    Statement (.a32MrcPmevtyper14 cond rt) := rfl
theorem Sys2Proof.Laws.RowOfFields.a32MrcPmevtyper15 (cond rt : BitVec 4) :
    Statement (.a32MrcPmevtyper15 cond rt) := rfl
theorem Sys2Proof.Laws.RowOfFields.a32MrcPmevtyper16 (cond rt : BitVec 4) :
    Statement (.a32MrcPmevtyper16 cond rt) := rfl
theorem Sys2Proof.Laws.RowOfFields.a32MrcPmevtyper17 (cond rt : BitVec 4) :
    Statement (.a32MrcPmevtyper17 cond rt) := rfl
theorem Sys2Proof.Laws.RowOfFields.a32MrcPmevtyper18 (cond rt : BitVec 4) :
    Statement (.a32MrcPmevtyper18 cond rt) := rfl
theorem Sys2Proof.Laws.RowOfFields.a32MrcPmevtyper19 (cond rt : BitVec 4) :
    Statement (.a32MrcPmevtyper19 cond rt) := rfl
theorem Sys2Proof.Laws.RowOfFields.a32MrcPmevtyper20 (cond rt : BitVec 4) :
    Statement (.a32MrcPmevtyper20 cond rt) := rfl
theorem Sys2Proof.Laws.RowOfFields.a32MrcPmevtyper21 (cond rt : BitVec 4) :
    Statement (.a32MrcPmevtyper21 cond rt) := rfl
theorem Sys2Proof.Laws.RowOfFields.a32MrcPmevtyper22 (cond rt : BitVec 4) :
    Statement (.a32MrcPmevtyper22 cond rt) := rfl
theorem Sys2Proof.Laws.RowOfFields.a32MrcPmevtyper23 (cond rt : BitVec 4) :
    Statement (.a32MrcPmevtyper23 cond rt) := rfl
theorem Sys2Proof.Laws.RowOfFields.a32MrcPmevtyper24 (cond rt : BitVec 4) :
    Statement (.a32MrcPmevtyper24 cond rt) := rfl
theorem Sys2Proof.Laws.RowOfFields.a32MrcPmevtyper25 (cond rt : BitVec 4) :
    Statement (.a32MrcPmevtyper25 cond rt) := rfl
theorem Sys2Proof.Laws.RowOfFields.a32MrcPmevtyper26 (cond rt : BitVec 4) :
    Statement (.a32MrcPmevtyper26 cond rt) := rfl
theorem Sys2Proof.Laws.RowOfFields.a32MrcPmevtyper27 (cond rt : BitVec 4) :
    Statement (.a32MrcPmevtyper27 cond rt) := rfl
theorem Sys2Proof.Laws.RowOfFields.a32MrcPmevtyper28 (cond rt : BitVec 4) :
    Statement (.a32MrcPmevtyper28 cond rt) := rfl
theorem Sys2Proof.Laws.RowOfFields.a32MrcPmevtyper29 (cond rt : BitVec 4) :
    Statement (.a32MrcPmevtyper29 cond rt) := rfl
theorem Sys2Proof.Laws.RowOfFields.a32MrcPmevtyper30 (cond rt : BitVec 4) :
    Statement (.a32MrcPmevtyper30 cond rt) := rfl
theorem Sys2Proof.Laws.RowOfFields.a32McrPmevtyper0 (cond rt : BitVec 4) :
    Statement (.a32McrPmevtyper0 cond rt) := rfl
theorem Sys2Proof.Laws.RowOfFields.a32McrPmevtyper1 (cond rt : BitVec 4) :
    Statement (.a32McrPmevtyper1 cond rt) := rfl
theorem Sys2Proof.Laws.RowOfFields.a32McrPmevtyper2 (cond rt : BitVec 4) :
    Statement (.a32McrPmevtyper2 cond rt) := rfl
theorem Sys2Proof.Laws.RowOfFields.a32McrPmevtyper3 (cond rt : BitVec 4) :
    Statement (.a32McrPmevtyper3 cond rt) := rfl
theorem Sys2Proof.Laws.RowOfFields.a32McrPmevtyper4 (cond rt : BitVec 4) :
    Statement (.a32McrPmevtyper4 cond rt) := rfl
theorem Sys2Proof.Laws.RowOfFields.a32McrPmevtyper5 (cond rt : BitVec 4) :
    Statement (.a32McrPmevtyper5 cond rt) := rfl
theorem Sys2Proof.Laws.RowOfFields.a32McrPmevtyper6 (cond rt : BitVec 4) :
    Statement (.a32McrPmevtyper6 cond rt) := rfl
theorem Sys2Proof.Laws.RowOfFields.a32McrPmevtyper7 (cond rt : BitVec 4) :
    Statement (.a32McrPmevtyper7 cond rt) := rfl
theorem Sys2Proof.Laws.RowOfFields.a32McrPmevtyper8 (cond rt : BitVec 4) :
    Statement (.a32McrPmevtyper8 cond rt) := rfl
theorem Sys2Proof.Laws.RowOfFields.a32McrPmevtyper9 (cond rt : BitVec 4) :
    Statement (.a32McrPmevtyper9 cond rt) := rfl
theorem Sys2Proof.Laws.RowOfFields.a32McrPmevtyper10 (cond rt : BitVec 4) :
    Statement (.a32McrPmevtyper10 cond rt) := rfl
theorem Sys2Proof.Laws.RowOfFields.a32McrPmevtyper11 (cond rt : BitVec 4) :
    Statement (.a32McrPmevtyper11 cond rt) := rfl
theorem Sys2Proof.Laws.RowOfFields.a32McrPmevtyper12 (cond rt : BitVec 4) :
    Statement (.a32McrPmevtyper12 cond rt) := rfl
theorem Sys2Proof.Laws.RowOfFields.a32McrPmevtyper13 (cond rt : BitVec 4) :
    Statement (.a32McrPmevtyper13 cond rt) := rfl
theorem Sys2Proof.Laws.RowOfFields.a32McrPmevtyper14 (cond rt : BitVec 4) :
    Statement (.a32McrPmevtyper14 cond rt) := rfl
theorem Sys2Proof.Laws.RowOfFields.a32McrPmevtyper15 (cond rt : BitVec 4) :
    Statement (.a32McrPmevtyper15 cond rt) := rfl
theorem Sys2Proof.Laws.RowOfFields.a32McrPmevtyper16 (cond rt : BitVec 4) :
    Statement (.a32McrPmevtyper16 cond rt) := rfl
theorem Sys2Proof.Laws.RowOfFields.a32McrPmevtyper17 (cond rt : BitVec 4) :
    Statement (.a32McrPmevtyper17 cond rt) := rfl
theorem Sys2Proof.Laws.RowOfFields.a32McrPmevtyper18 (cond rt : BitVec 4) :
    Statement (.a32McrPmevtyper18 cond rt) := rfl
theorem Sys2Proof.Laws.RowOfFields.a32McrPmevtyper19 (cond rt : BitVec 4) :
    Statement (.a32McrPmevtyper19 cond rt) := rfl
theorem Sys2Proof.Laws.RowOfFields.a32McrPmevtyper20 (cond rt : BitVec 4) :
    Statement (.a32McrPmevtyper20 cond rt) := rfl
theorem Sys2Proof.Laws.RowOfFields.a32McrPmevtyper21 (cond rt : BitVec 4) :
    Statement (.a32McrPmevtyper21 cond rt) := rfl
theorem Sys2Proof.Laws.RowOfFields.a32McrPmevtyper22 (cond rt : BitVec 4) :
    Statement (.a32McrPmevtyper22 cond rt) := rfl
theorem Sys2Proof.Laws.RowOfFields.a32McrPmevtyper23 (cond rt : BitVec 4) :
    Statement (.a32McrPmevtyper23 cond rt) := rfl
theorem Sys2Proof.Laws.RowOfFields.a32McrPmevtyper24 (cond rt : BitVec 4) :
    Statement (.a32McrPmevtyper24 cond rt) := rfl
theorem Sys2Proof.Laws.RowOfFields.a32McrPmevtyper25 (cond rt : BitVec 4) :
    Statement (.a32McrPmevtyper25 cond rt) := rfl
theorem Sys2Proof.Laws.RowOfFields.a32McrPmevtyper26 (cond rt : BitVec 4) :
    Statement (.a32McrPmevtyper26 cond rt) := rfl
theorem Sys2Proof.Laws.RowOfFields.a32McrPmevtyper27 (cond rt : BitVec 4) :
    Statement (.a32McrPmevtyper27 cond rt) := rfl
theorem Sys2Proof.Laws.RowOfFields.a32McrPmevtyper28 (cond rt : BitVec 4) :
    Statement (.a32McrPmevtyper28 cond rt) := rfl
theorem Sys2Proof.Laws.RowOfFields.a32McrPmevtyper29 (cond rt : BitVec 4) :
    Statement (.a32McrPmevtyper29 cond rt) := rfl
theorem Sys2Proof.Laws.RowOfFields.a32McrPmevtyper30 (cond rt : BitVec 4) :
    Statement (.a32McrPmevtyper30 cond rt) := rfl
theorem Sys2Proof.Laws.RowOfFields.t32MrcPmevtyper0 (rt : BitVec 4) :
    Statement (.t32MrcPmevtyper0 rt) := rfl
theorem Sys2Proof.Laws.RowOfFields.t32MrcPmevtyper1 (rt : BitVec 4) :
    Statement (.t32MrcPmevtyper1 rt) := rfl
theorem Sys2Proof.Laws.RowOfFields.t32MrcPmevtyper2 (rt : BitVec 4) :
    Statement (.t32MrcPmevtyper2 rt) := rfl
theorem Sys2Proof.Laws.RowOfFields.t32MrcPmevtyper3 (rt : BitVec 4) :
    Statement (.t32MrcPmevtyper3 rt) := rfl
theorem Sys2Proof.Laws.RowOfFields.t32MrcPmevtyper4 (rt : BitVec 4) :
    Statement (.t32MrcPmevtyper4 rt) := rfl
theorem Sys2Proof.Laws.RowOfFields.t32MrcPmevtyper5 (rt : BitVec 4) :
    Statement (.t32MrcPmevtyper5 rt) := rfl
theorem Sys2Proof.Laws.RowOfFields.t32MrcPmevtyper6 (rt : BitVec 4) :
    Statement (.t32MrcPmevtyper6 rt) := rfl
theorem Sys2Proof.Laws.RowOfFields.t32MrcPmevtyper7 (rt : BitVec 4) :
    Statement (.t32MrcPmevtyper7 rt) := rfl
theorem Sys2Proof.Laws.RowOfFields.t32MrcPmevtyper8 (rt : BitVec 4) :
    Statement (.t32MrcPmevtyper8 rt) := rfl
theorem Sys2Proof.Laws.RowOfFields.t32MrcPmevtyper9 (rt : BitVec 4) :
    Statement (.t32MrcPmevtyper9 rt) := rfl
theorem Sys2Proof.Laws.RowOfFields.t32MrcPmevtyper10 (rt : BitVec 4) :
    Statement (.t32MrcPmevtyper10 rt) := rfl
theorem Sys2Proof.Laws.RowOfFields.t32MrcPmevtyper11 (rt : BitVec 4) :
    Statement (.t32MrcPmevtyper11 rt) := rfl
theorem Sys2Proof.Laws.RowOfFields.t32MrcPmevtyper12 (rt : BitVec 4) :
    Statement (.t32MrcPmevtyper12 rt) := rfl
theorem Sys2Proof.Laws.RowOfFields.t32MrcPmevtyper13 (rt : BitVec 4) :
    Statement (.t32MrcPmevtyper13 rt) := rfl
theorem Sys2Proof.Laws.RowOfFields.t32MrcPmevtyper14 (rt : BitVec 4) :
    Statement (.t32MrcPmevtyper14 rt) := rfl
theorem Sys2Proof.Laws.RowOfFields.t32MrcPmevtyper15 (rt : BitVec 4) :
    Statement (.t32MrcPmevtyper15 rt) := rfl
theorem Sys2Proof.Laws.RowOfFields.t32MrcPmevtyper16 (rt : BitVec 4) :
    Statement (.t32MrcPmevtyper16 rt) := rfl
theorem Sys2Proof.Laws.RowOfFields.t32MrcPmevtyper17 (rt : BitVec 4) :
    Statement (.t32MrcPmevtyper17 rt) := rfl
theorem Sys2Proof.Laws.RowOfFields.t32MrcPmevtyper18 (rt : BitVec 4) :
    Statement (.t32MrcPmevtyper18 rt) := rfl
theorem Sys2Proof.Laws.RowOfFields.t32MrcPmevtyper19 (rt : BitVec 4) :
    Statement (.t32MrcPmevtyper19 rt) := rfl
theorem Sys2Proof.Laws.RowOfFields.t32MrcPmevtyper20 (rt : BitVec 4) :
    Statement (.t32MrcPmevtyper20 rt) := rfl
theorem Sys2Proof.Laws.RowOfFields.t32MrcPmevtyper21 (rt : BitVec 4) :
    Statement (.t32MrcPmevtyper21 rt) := rfl
theorem Sys2Proof.Laws.RowOfFields.t32MrcPmevtyper22 (rt : BitVec 4) :
    Statement (.t32MrcPmevtyper22 rt) := rfl
theorem Sys2Proof.Laws.RowOfFields.t32MrcPmevtyper23 (rt : BitVec 4) :
    Statement (.t32MrcPmevtyper23 rt) := rfl
theorem Sys2Proof.Laws.RowOfFields.t32MrcPmevtyper24 (rt : BitVec 4) :
    Statement (.t32MrcPmevtyper24 rt) := rfl
theorem Sys2Proof.Laws.RowOfFields.t32MrcPmevtyper25 (rt : BitVec 4) :
    Statement (.t32MrcPmevtyper25 rt) := rfl
theorem Sys2Proof.Laws.RowOfFields.t32MrcPmevtyper26 (rt : BitVec 4) :
    Statement (.t32MrcPmevtyper26 rt) := rfl
theorem Sys2Proof.Laws.RowOfFields.t32MrcPmevtyper27 (rt : BitVec 4) :
    Statement (.t32MrcPmevtyper27 rt) := rfl
theorem Sys2Proof.Laws.RowOfFields.t32MrcPmevtyper28 (rt : BitVec 4) :
    Statement (.t32MrcPmevtyper28 rt) := rfl
theorem Sys2Proof.Laws.RowOfFields.t32MrcPmevtyper29 (rt : BitVec 4) :
    Statement (.t32MrcPmevtyper29 rt) := rfl
theorem Sys2Proof.Laws.RowOfFields.t32MrcPmevtyper30 (rt : BitVec 4) :
    Statement (.t32MrcPmevtyper30 rt) := rfl
theorem Sys2Proof.Laws.RowOfFields.t32McrPmevtyper0 (rt : BitVec 4) :
    Statement (.t32McrPmevtyper0 rt) := rfl
theorem Sys2Proof.Laws.RowOfFields.t32McrPmevtyper1 (rt : BitVec 4) :
    Statement (.t32McrPmevtyper1 rt) := rfl
theorem Sys2Proof.Laws.RowOfFields.t32McrPmevtyper2 (rt : BitVec 4) :
    Statement (.t32McrPmevtyper2 rt) := rfl
theorem Sys2Proof.Laws.RowOfFields.t32McrPmevtyper3 (rt : BitVec 4) :
    Statement (.t32McrPmevtyper3 rt) := rfl
theorem Sys2Proof.Laws.RowOfFields.t32McrPmevtyper4 (rt : BitVec 4) :
    Statement (.t32McrPmevtyper4 rt) := rfl
theorem Sys2Proof.Laws.RowOfFields.t32McrPmevtyper5 (rt : BitVec 4) :
    Statement (.t32McrPmevtyper5 rt) := rfl
theorem Sys2Proof.Laws.RowOfFields.t32McrPmevtyper6 (rt : BitVec 4) :
    Statement (.t32McrPmevtyper6 rt) := rfl
theorem Sys2Proof.Laws.RowOfFields.t32McrPmevtyper7 (rt : BitVec 4) :
    Statement (.t32McrPmevtyper7 rt) := rfl
theorem Sys2Proof.Laws.RowOfFields.t32McrPmevtyper8 (rt : BitVec 4) :
    Statement (.t32McrPmevtyper8 rt) := rfl
theorem Sys2Proof.Laws.RowOfFields.t32McrPmevtyper9 (rt : BitVec 4) :
    Statement (.t32McrPmevtyper9 rt) := rfl
theorem Sys2Proof.Laws.RowOfFields.t32McrPmevtyper10 (rt : BitVec 4) :
    Statement (.t32McrPmevtyper10 rt) := rfl
theorem Sys2Proof.Laws.RowOfFields.t32McrPmevtyper11 (rt : BitVec 4) :
    Statement (.t32McrPmevtyper11 rt) := rfl
theorem Sys2Proof.Laws.RowOfFields.t32McrPmevtyper12 (rt : BitVec 4) :
    Statement (.t32McrPmevtyper12 rt) := rfl
theorem Sys2Proof.Laws.RowOfFields.t32McrPmevtyper13 (rt : BitVec 4) :
    Statement (.t32McrPmevtyper13 rt) := rfl
theorem Sys2Proof.Laws.RowOfFields.t32McrPmevtyper14 (rt : BitVec 4) :
    Statement (.t32McrPmevtyper14 rt) := rfl
theorem Sys2Proof.Laws.RowOfFields.t32McrPmevtyper15 (rt : BitVec 4) :
    Statement (.t32McrPmevtyper15 rt) := rfl
theorem Sys2Proof.Laws.RowOfFields.t32McrPmevtyper16 (rt : BitVec 4) :
    Statement (.t32McrPmevtyper16 rt) := rfl
theorem Sys2Proof.Laws.RowOfFields.t32McrPmevtyper17 (rt : BitVec 4) :
    Statement (.t32McrPmevtyper17 rt) := rfl
theorem Sys2Proof.Laws.RowOfFields.t32McrPmevtyper18 (rt : BitVec 4) :
    Statement (.t32McrPmevtyper18 rt) := rfl
theorem Sys2Proof.Laws.RowOfFields.t32McrPmevtyper19 (rt : BitVec 4) :
    Statement (.t32McrPmevtyper19 rt) := rfl
theorem Sys2Proof.Laws.RowOfFields.t32McrPmevtyper20 (rt : BitVec 4) :
    Statement (.t32McrPmevtyper20 rt) := rfl
theorem Sys2Proof.Laws.RowOfFields.t32McrPmevtyper21 (rt : BitVec 4) :
    Statement (.t32McrPmevtyper21 rt) := rfl
theorem Sys2Proof.Laws.RowOfFields.t32McrPmevtyper22 (rt : BitVec 4) :
    Statement (.t32McrPmevtyper22 rt) := rfl
theorem Sys2Proof.Laws.RowOfFields.t32McrPmevtyper23 (rt : BitVec 4) :
    Statement (.t32McrPmevtyper23 rt) := rfl
theorem Sys2Proof.Laws.RowOfFields.t32McrPmevtyper24 (rt : BitVec 4) :
    Statement (.t32McrPmevtyper24 rt) := rfl
theorem Sys2Proof.Laws.RowOfFields.t32McrPmevtyper25 (rt : BitVec 4) :
    Statement (.t32McrPmevtyper25 rt) := rfl
theorem Sys2Proof.Laws.RowOfFields.t32McrPmevtyper26 (rt : BitVec 4) :
    Statement (.t32McrPmevtyper26 rt) := rfl
theorem Sys2Proof.Laws.RowOfFields.t32McrPmevtyper27 (rt : BitVec 4) :
    Statement (.t32McrPmevtyper27 rt) := rfl
theorem Sys2Proof.Laws.RowOfFields.t32McrPmevtyper28 (rt : BitVec 4) :
    Statement (.t32McrPmevtyper28 rt) := rfl
theorem Sys2Proof.Laws.RowOfFields.t32McrPmevtyper29 (rt : BitVec 4) :
    Statement (.t32McrPmevtyper29 rt) := rfl
theorem Sys2Proof.Laws.RowOfFields.t32McrPmevtyper30 (rt : BitVec 4) :
    Statement (.t32McrPmevtyper30 rt) := rfl
end

