-- ==== Sys2Proof/Laws/Decode.lean ====
section
/-! SUPPORT. Decoding and encoding, field by field: what each field of an encoded word is, a word as the string of its
fields, and the rows of the table by their fields. -/

namespace Sys2Proof

/-! ### Rows -/

/-- Every instruction is the row of its own fields. -/
theorem rowOfFields_fields (i : Instr) : rowOfFields i.fields = some i := by
  cases i <;> rfl

/-- A T32 form's condition field means always. -/
theorem Instr.cond_of_t32 {i : Instr} (h : i.iset = .t32) : i.cond = condAlways := by
  cases i <;> first | rfl | cases h

/-- A row of the table has the fields it was asked for; in T32 the condition field asked for must mean always. -/
theorem fields_of_rowOfFields {f : Fields} {i : Instr} (h : rowOfFields f = some i)
    (hc : f.iset = .t32 → f.cond = condAlways) : i.fields = f := by
  obtain ⟨iset, kind, ⟨n, hn⟩, cond, rt⟩ := f
  cases iset with
  | a32 => cases kind <;> simp only [rowOfFields] at h <;> interval_cases n <;> (cases h; rfl)
  | t32 =>
    obtain rfl := hc rfl
    cases kind <;> simp only [rowOfFields] at h <;> interval_cases n <;> (cases h; rfl)

/-- Every set of fields is a row of the table. -/
theorem rowOfFields_isSome (f : Fields) : ∃ i, rowOfFields f = some i := by
  obtain ⟨iset, kind, ⟨n, hn⟩, cond, rt⟩ := f
  cases iset <;> cases kind <;> interval_cases n <;> exact ⟨_, rfl⟩

/-! ### Bytes -/

/-- The four bytes of a word in A32 order make the word. -/
theorem wordOfBytes_a32_byteOf (w : Word) :
    wordOfBytes .a32 (byteOf w 0) (byteOf w 1) (byteOf w 2) (byteOf w 3) = w := by
  apply BitVec.eq_of_getLsbD_eq
  intro i hi
  rw [wordOfBytes]
  interval_cases i <;> simp only [byteOf, BitVec.getLsbD_append, BitVec.getLsbD_extractLsb'] <;> simp

/-- The four bytes of a word in T32 order make the word. -/
theorem wordOfBytes_t32_byteOf (w : Word) :
    wordOfBytes .t32 (byteOf w 2) (byteOf w 3) (byteOf w 0) (byteOf w 1) = w := by
  apply BitVec.eq_of_getLsbD_eq
  intro i hi
  rw [wordOfBytes]
  interval_cases i <;> simp only [byteOf, BitVec.getLsbD_append, BitVec.getLsbD_extractLsb'] <;> simp

/-- Decoding the bytes of a word decodes the word. -/
theorem decodeBytes_bytesOfWord (iset : InstrSet) (w : Word) (rest : List Byte) :
    decodeBytes iset (bytesOfWord iset w ++ rest) =
      match decodeWord iset w with
      | .ok i => .ok (i, rest)
      | .error e => .error e := by
  let decoded : Except DecodeError Instr → Except DecodeError (Instr × List Byte)
    | .ok i => .ok (i, rest)
    | .error e => .error e
  cases iset
  · exact congrArg (fun v => decoded (decodeWord .a32 v)) (wordOfBytes_a32_byteOf w)
  · exact congrArg (fun v => decoded (decodeWord .t32 v)) (wordOfBytes_t32_byteOf w)

/-! ### A word is the string of its fields -/

/-- A word is its ten fields, written from bit 31 down (R85). -/
theorem word_eq_fields (w : Word) :
    w = (wordTop w ++ wordFixed w ++ wordOpc1 w ++ wordL w ++ wordCRn w) ++
      (wordRt w ++ wordCoproc w ++ wordOpc2 w ++ wordBit4 w ++ wordCRm w) := by
  apply BitVec.eq_of_getLsbD_eq
  intro i hi
  interval_cases i <;>
    simp only [wordTop, wordFixed, wordOpc1, wordL, wordCRn, wordRt, wordCoproc, wordOpc2, wordBit4, wordCRm,
      BitVec.getLsbD_append, BitVec.getLsbD_extractLsb'] <;> simp

/-- `CRm` is its two halves. -/
theorem wordCRm_eq (w : Word) : wordCRm w = (wordCRm w).extractLsb' 2 2 ++ (wordCRm w).extractLsb' 0 2 := by
  apply BitVec.eq_of_getLsbD_eq
  intro i hi
  interval_cases i <;> simp only [BitVec.getLsbD_append, BitVec.getLsbD_extractLsb'] <;> simp

section Encoded

variable (top rt : BitVec 4) (k : Kind) (n : Fin 31)

@[simp] theorem wordTop_encoded : wordTop (encodeHigh top k ++ encodeLow n rt) = top := by
  apply BitVec.eq_of_getLsbD_eq
  intro i hi
  interval_cases i <;>
    simp only [wordTop, encodeHigh, encodeLow, BitVec.getLsbD_append, BitVec.getLsbD_extractLsb'] <;> simp

@[simp] theorem wordFixed_encoded : wordFixed (encodeHigh top k ++ encodeLow n rt) = 0b1110#4 := by
  apply BitVec.eq_of_getLsbD_eq
  intro i hi
  interval_cases i <;>
    simp only [wordFixed, encodeHigh, encodeLow, BitVec.getLsbD_append, BitVec.getLsbD_extractLsb'] <;> simp

@[simp] theorem wordOpc1_encoded : wordOpc1 (encodeHigh top k ++ encodeLow n rt) = 0b000#3 := by
  apply BitVec.eq_of_getLsbD_eq
  intro i hi
  interval_cases i <;>
    simp only [wordOpc1, encodeHigh, encodeLow, BitVec.getLsbD_append, BitVec.getLsbD_extractLsb'] <;> simp

@[simp] theorem wordL_encoded : wordL (encodeHigh top k ++ encodeLow n rt) = kindL k := by
  apply BitVec.eq_of_getLsbD_eq
  intro i hi
  interval_cases i
  simp only [wordL, encodeHigh, encodeLow, BitVec.getLsbD_append, BitVec.getLsbD_extractLsb']
  simp

@[simp] theorem wordCRn_encoded : wordCRn (encodeHigh top k ++ encodeLow n rt) = 0b1110#4 := by
  apply BitVec.eq_of_getLsbD_eq
  intro i hi
  interval_cases i <;>
    simp only [wordCRn, encodeHigh, encodeLow, BitVec.getLsbD_append, BitVec.getLsbD_extractLsb'] <;> simp

@[simp] theorem wordRt_encoded : wordRt (encodeHigh top k ++ encodeLow n rt) = rt := by
  apply BitVec.eq_of_getLsbD_eq
  intro i hi
  interval_cases i <;>
    simp only [wordRt, encodeHigh, encodeLow, BitVec.getLsbD_append, BitVec.getLsbD_extractLsb'] <;> simp

@[simp] theorem wordCoproc_encoded : wordCoproc (encodeHigh top k ++ encodeLow n rt) = 0b1111#4 := by
  apply BitVec.eq_of_getLsbD_eq
  intro i hi
  interval_cases i <;>
    simp only [wordCoproc, encodeHigh, encodeLow, BitVec.getLsbD_append, BitVec.getLsbD_extractLsb'] <;> simp

@[simp] theorem wordOpc2_encoded : wordOpc2 (encodeHigh top k ++ encodeLow n rt) = opc2Of n := by
  apply BitVec.eq_of_getLsbD_eq
  intro i hi
  interval_cases i <;>
    simp only [wordOpc2, encodeHigh, encodeLow, BitVec.getLsbD_append, BitVec.getLsbD_extractLsb'] <;> simp

@[simp] theorem wordBit4_encoded : wordBit4 (encodeHigh top k ++ encodeLow n rt) = 0b1#1 := by
  apply BitVec.eq_of_getLsbD_eq
  intro i hi
  interval_cases i
  simp only [wordBit4, encodeHigh, encodeLow, BitVec.getLsbD_append, BitVec.getLsbD_extractLsb']
  simp

@[simp] theorem wordCRm_encoded : wordCRm (encodeHigh top k ++ encodeLow n rt) = crmOf n := by
  apply BitVec.eq_of_getLsbD_eq
  intro i hi
  interval_cases i <;>
    simp only [wordCRm, encodeHigh, encodeLow, BitVec.getLsbD_append, BitVec.getLsbD_extractLsb'] <;> simp

/-- The bit `L` says the kind. -/
@[simp] theorem wordKind_encoded : wordKind (encodeHigh top k ++ encodeLow n rt) = k := by
  cases k <;> simp [wordKind, kindL]

/-- The index of R82 recovers n from `CRm` and `opc2` (R81). -/
@[simp] theorem wordIndex_encoded : (wordIndex (encodeHigh top k ++ encodeLow n rt)).toNat = n.val := by
  have h : ∀ m : Fin 31, ((crmOf m).extractLsb' 0 2 ++ opc2Of m).toNat = m.val := by decide
  simpa [wordIndex] using h n

/-- An encoded word has the fixed fields of the encoding table (R81). -/
@[simp] theorem wordSelectsBank_encoded : wordSelectsBank (encodeHigh top k ++ encodeLow n rt) = true := by
  have h : ∀ m : Fin 31, (crmOf m).extractLsb' 2 2 = 0b11#2 := by decide
  simp [wordSelectsBank, h n]

end Encoded

/-- `decodeWord` answers an instruction exactly for the words whose fixed fields and index select one: the fields of
the instruction are then those of the word. -/
theorem decodeWord_ok {iset : InstrSet} {w : Word} {i : Instr} (h : decodeWord iset w = .ok i) :
    (iset = .a32 → wordTop w ≠ 0b1111#4) ∧ (iset = .t32 → wordTop w = 0b1110#4) ∧ wordSelectsBank w = true ∧
      ∃ hn : (wordIndex w).toNat < 31,
        i.fields = ⟨iset, wordKind w, ⟨(wordIndex w).toNat, hn⟩, wordTop w, wordRt w⟩ := by
  unfold decodeWord at h
  split at h
  · cases h
  · rename_i h1
    split at h
    · cases h
    · rename_i h2
      split at h
      · rename_i h3
        split at h
        · rename_i h4
          split at h
          · rename_i j hj
            cases h
            have ht : iset = .t32 → wordTop w = 0b1110#4 := fun e => by
              by_contra hne
              exact h2 ⟨e, hne⟩
            exact ⟨fun e hne => h1 ⟨e, hne⟩, ht, h3, h4, fields_of_rowOfFields hj ht⟩
          · cases h
        · cases h
      · cases h

end Sys2Proof
end

