-- ==== Sys2Proof/Laws/Environment.lean ====
section
/-! SUPPORT. What the environment's turn can do, said once. -/

namespace Sys2Proof.Machine

/-- The environment's turn leaves the implementation, program memory, the turns to come and the count of draws, and the
content of every register it does not touch (R41). -/
theorem State.applyEnv_frame (s : State) (e : EnvEvent) :
    (s.applyEnv e).impl = s.impl ∧ (s.applyEnv e).mem = s.mem ∧ (s.applyEnv e).turns = s.turns ∧
      (s.applyEnv e).draws = s.draws ∧ ∀ n : Fin 31, e.touches n = false → (s.applyEnv e).reg n = s.reg n := by
  cases e with
  | viewWrite _ m _ _ =>
    refine ⟨rfl, rfl, rfl, rfl, fun n hn => State.reg_setReg_other s (fun h => ?_) _⟩
    rw [h] at hn
    simp [EnvEvent.touches] at hn
  | reset _ _ => exact ⟨rfl, rfl, rfl, rfl, fun n hn => by cases hn⟩
  | surroundings _ => exact ⟨rfl, rfl, rfl, rfl, fun _ _ => rfl⟩
  | contextSync => exact ⟨rfl, rfl, rfl, rfl, fun _ _ => rfl⟩

end Sys2Proof.Machine
end

