-- ==== Sys2Proof/Laws/Exec.lean ====
section
/-! SUPPORT. What an instruction and a step can do, said once: every meaning is the shared access on the instruction's
fields, an access that completes does one of three things, and a step is the environment's turn or one instruction. -/

namespace Sys2Proof.Machine

/-- Every instruction's meaning is the shared access on its own fields. -/
theorem exec_eq_accessRegister (i : Instr) (s : State) : exec i s = accessRegister i.kind i.reg i.cond i.rt s := by
  cases i <;> rfl

/-- An admitted form performs its behaviour. -/
theorem exec_admitted {i : Instr} (h : i.Admitted) (s : State) :
    exec i s = s.perform i.kind i.reg i.rt (s.behaviour i.kind i.reg) := by
  rw [exec_eq_accessRegister, accessRegister, if_pos (by simp [conditionAdmitted, h.1]),
    if_pos (by simpa [registerAdmitted] using h.2)]

/-- An instruction that answers a next state is an admitted form. -/
theorem admitted_of_exec_next {i : Instr} {s t : State} (h : exec i s = .next t) : i.Admitted := by
  rw [exec_eq_accessRegister, accessRegister] at h
  split at h
  · rename_i hc
    split at h
    · rename_i hr
      exact ⟨by simpa [conditionAdmitted] using hc, by simpa [registerAdmitted] using hr⟩
    · cases h
  · cases h

/-- Taking an exception never gives a next state or a refusal (60_exceptions.md R177). -/
theorem State.takeException_fault (s : State) (r : Raise) : ∃ f, s.takeException r = .fault f := by
  cases r with
  | trapEL2Range =>
    cases h : s.impl.rangeTrapForm <;> cases h' : s.ctx.a32EL2 <;> simp [State.takeException, h, h']
  | _ => exact ⟨_, rfl⟩

/-- A behaviour that gives a next state is a transfer, RAZ/WI or a NOP (R100 stage 5). -/
theorem State.perform_next {s t : State} {k : Kind} {n : Fin 31} {x : BitVec 4} {b : Behaviour}
    (h : s.perform k n x b = .next t) :
    (b = .inRange ∧ t = (s.transfer k n x).advance) ∨ (b = .razWi ∧ t = (s.razWi k x).advance) ∨
      (b = .nop ∧ t = s.advance) := by
  cases b with
  | inRange => exact .inl ⟨rfl, (Host.Outcome.next.inj h).symm⟩
  | razWi => exact .inr (.inl ⟨rfl, (Host.Outcome.next.inj h).symm⟩)
  | nop => exact .inr (.inr ⟨rfl, (Host.Outcome.next.inj h).symm⟩)
  | raise r =>
    obtain ⟨f, hf⟩ := s.takeException_fault r
    rw [State.perform, hf] at h
    cases h

/-- An instruction that completes is an admitted form that transferred, was RAZ/WI or a NOP. -/
theorem exec_next_cases {i : Instr} {s t : State} (h : exec i s = .next t) :
    i.Admitted ∧
      ((s.behaviour i.kind i.reg = .inRange ∧ t = (s.transfer i.kind i.reg i.rt).advance) ∨
        (s.behaviour i.kind i.reg = .razWi ∧ t = (s.razWi i.kind i.rt).advance) ∨
        (s.behaviour i.kind i.reg = .nop ∧ t = s.advance)) := by
  have ha := admitted_of_exec_next h
  rw [exec_admitted ha] at h
  exact ⟨ha, State.perform_next h⟩

/-- The PE's turn that gives a next state ran the instruction decoded at the pc. -/
theorem runInstruction_next {s t : State} (h : runInstruction s = .next t) :
    ∃ w i, s.fetch = some w ∧ decodeWord s.iset w = .ok i ∧ exec i s = .next t := by
  unfold runInstruction at h
  split at h
  · cases h
  · rename_i w hw
    split at h
    · cases h
    · rename_i i hi
      exact ⟨w, i, hw, hi, h⟩

/-- A step that gives a next state was the environment's turn, or ran one instruction with the turn taken. -/
theorem step_next_cases {s t : State} (h : step s = .next t) :
    (∃ e rest, s.turns = .env e :: rest ∧ t = ({ s with turns := rest } : State).applyEnv e) ∨
      (∃ rest w i, (s.turns = .pe :: rest ∨ (s.turns = [] ∧ rest = [])) ∧ s.fetch = some w ∧
        decodeWord s.iset w = .ok i ∧ exec i ({ s with turns := rest } : State) = .next t) := by
  unfold step at h
  split at h
  · rename_i ht
    obtain ⟨w, i, hw, hi, he⟩ := runInstruction_next h
    have hs : ({ s with turns := [] } : State) = s := by rw [← ht]
    exact .inr ⟨[], w, i, .inr ⟨ht, rfl⟩, hw, hi, by rw [hs]; exact he⟩
  · rename_i rest ht
    obtain ⟨w, i, hw, hi, he⟩ := runInstruction_next h
    exact .inr ⟨rest, w, i, .inl ht, hw, hi, he⟩
  · rename_i e rest ht
    exact .inl ⟨e, rest, ht, (Host.Outcome.next.inj h).symm⟩

end Sys2Proof.Machine
end

