-- ==== Sys2Proof/Laws/Memory.lean ====
section
/-! SUPPORT. Program memory: reading after writing, the canonical form, and fetching what was stored. -/

namespace Sys2Proof.Machine

/-- A write is what a read of the same address then gives. -/
@[simp] theorem Memory.read_write_same (m : Memory) (a : Nat) (v : Byte) : (m.write a v).read a = some v := by
  induction m with
  | nil => simp [Memory.write, Memory.read]
  | cons c rest ih =>
    obtain ⟨b, w⟩ := c
    simp only [Memory.write]
    split
    · simp [Memory.read]
    · split <;> simp_all [Memory.read]

/-- A write leaves every other address. -/
theorem Memory.read_write_other {m : Memory} {a b : Nat} (h : b ≠ a) (v : Byte) :
    (m.write a v).read b = m.read b := by
  induction m with
  | nil => simp [Memory.write, Memory.read, h]
  | cons c rest ih =>
    obtain ⟨d, w⟩ := c
    simp only [Memory.write]
    split
    · simp [Memory.read, h]
    · split <;> simp_all [Memory.read]

/-- A lower bound may be lowered. -/
theorem Memory.risingFrom_mono {m : Memory} {lo lo' : Nat} (h : lo' ≤ lo) (hm : Memory.risingFrom lo m = true) :
    Memory.risingFrom lo' m = true := by
  cases m with
  | nil => rfl
  | cons c rest => simp only [Memory.risingFrom, Bool.and_eq_true, decide_eq_true_eq] at hm ⊢; exact ⟨⟨by omega, hm.1.2⟩, hm.2⟩

/-- A write keeps addresses rising from any bound at or below its own. -/
theorem Memory.risingFrom_write {m : Memory} {lo a : Nat} (v : Byte) (hlo : lo ≤ a) (ha : a < 2 ^ 32)
    (hm : Memory.risingFrom lo m = true) : Memory.risingFrom lo (m.write a v) = true := by
  induction m generalizing lo with
  | nil => simp only [Memory.write, Memory.risingFrom, Bool.and_eq_true, decide_eq_true_eq]; exact ⟨⟨hlo, ha⟩, trivial⟩
  | cons c rest ih =>
    obtain ⟨b, w⟩ := c
    simp only [Memory.risingFrom, Bool.and_eq_true, decide_eq_true_eq] at hm
    simp only [Memory.write]
    split
    · simp only [Memory.risingFrom, Bool.and_eq_true, decide_eq_true_eq]
      exact ⟨⟨hlo, ha⟩, ⟨by omega, hm.1.2⟩, hm.2⟩
    · split
      · subst_vars
        simp only [Memory.risingFrom, Bool.and_eq_true, decide_eq_true_eq]
        exact hm
      · simp only [Memory.risingFrom, Bool.and_eq_true, decide_eq_true_eq]
        exact ⟨hm.1, ih (by omega) hm.2⟩

/-- A write keeps the canonical form. -/
theorem Memory.wf_write {m : Memory} {a : Nat} (v : Byte) (ha : a < 2 ^ 32) (hm : m.wf = true) :
    (m.write a v).wf = true :=
  Memory.risingFrom_write v (Nat.zero_le a) ha hm

/-- Storing bytes keeps the canonical form. -/
theorem Memory.wf_store {m : Memory} (addr : Word) (bs : List Byte) (hm : m.wf = true) :
    (m.store addr bs).wf = true := by
  induction bs generalizing m addr with
  | nil => exact hm
  | cons b bs ih => exact ih (addr + 1) (Memory.wf_write b addr.isLt hm)

/-- The fetch reads back the word that was stored at the pc. -/
theorem State.fetch_withFetchWord (s : State) (nbits w : Nat) :
    (s.withFetchWord nbits w).fetch = some (BitVec.ofNat 32 (w % 2 ^ nbits)) := by
  have h : ∀ i j : Word, i ≠ j → (s.pc + i).toNat ≠ (s.pc + j).toNat := fun i j hij e =>
    hij (by have := BitVec.eq_of_toNat_eq e; bv_omega)
  have e2 : s.pc + 1 + 1 = s.pc + 2 := by bv_omega
  have e3 : s.pc + 2 + 1 = s.pc + 3 := by bv_omega
  have e0 : s.pc + 0 = s.pc := by bv_omega
  have h01 := h 0 1 (by decide)
  have h02 := h 0 2 (by decide)
  have h03 := h 0 3 (by decide)
  have h12 := h 1 2 (by decide)
  have h13 := h 1 3 (by decide)
  have h23 := h 2 3 (by decide)
  rw [e0] at h01 h02 h03
  unfold State.fetch State.withFetchWord
  cases hi : s.iset <;>
    simp only [bytesOfWord, Memory.store, e2, e3, Memory.read_write_same, Memory.read_write_other h01,
      Memory.read_write_other h02, Memory.read_write_other h03, Memory.read_write_other h12,
      Memory.read_write_other h13, Memory.read_write_other h23] <;>
    simp [wordOfBytes_a32_byteOf, wordOfBytes_t32_byteOf]

end Sys2Proof.Machine
end

