-- ==== Sys2Proof/Tests/Slice0.lean ====
section
/-! SUPPORT. The model's own tests: the spec's worked vectors (95_test_vectors.md), the check of WellFormed on an
ill-formed term, and a witness for the hypotheses of every statement that has some. Expected values are the spec's. -/

namespace Sys2Proof.Machine.Slice0

/-! ### Helpers -/

/-- The default context of 95_test_vectors.md section 5, at an Exception level. -/
def ctxAt (el : EL) : Ctx := { Ctx.atReset with el := el }

/-- The default context with EL1, EL2 and EL3 using AArch64. -/
def ctxA64 (el : EL) : Ctx := { ctxAt el with a32EL1 := false, a32EL2 := false, a32EL3 := false }

/-- A state of an implementation in a context, every register known and zero, `x[0]` and `x[1]` given. -/
def stateOf (c : Impl) (x : Ctx) (x0 x1 : Word := 0) : State :=
  { State.reset with
    impl := c, ctx := x, unk := Vector.replicate 31 0, pc := 0x1000
    gpr := ((Vector.replicate 15 0).set 0 x0).set 1 x1 }

/-- That state with a word where the next step fetches. -/
def stateWith (c : Impl) (x : Ctx) (w : Nat) (x0 x1 : Word := 0) : State := (stateOf c x x0 x1).withFetchWord 32 w

/-- Does the outcome go on to a state with a property? -/
def goesOn (o : Host.Outcome State Fault Refusal) (p : State → Bool) : Bool :=
  match o with
  | .next t => p t
  | .fault _ => false
  | .refused _ => false

/-- Does the outcome stop with this fault? -/
def faultsWith (o : Host.Outcome State Fault Refusal) (f : Fault) : Bool :=
  match o with
  | .next _ => false
  | .fault g => g == f
  | .refused _ => false

/-- Does the outcome stop with this refusal? -/
def refusesWith (o : Host.Outcome State Fault Refusal) (r : Refusal) : Bool :=
  match o with
  | .next _ => false
  | .fault _ => false
  | .refused q => q == r

/-! ### WellFormed refuses an ill-formed term -/

theorem test_wellFormed_refuses_condition_ones : ¬(Instr.a32MrcPmevtyper0 0b1111#4 0#4).WellFormed := by decide

theorem test_wellFormed_accepts_every_other_condition :
    ∀ c : BitVec 4, c ≠ 0b1111#4 → (Instr.a32McrPmevtyper30 c 14#4).WellFormed := by decide

theorem test_wellFormed_accepts_t32 : (Instr.t32McrPmevtyper30 14#4).WellFormed := by decide

theorem test_admitted_refuses_rt_fifteen : ¬(Instr.t32MrcPmevtyper0 15#4).Admitted := by decide

/-! ### Decoding: the words of 95_test_vectors.md section 2, every constructor -/

theorem test_decode_a32_mrc_0_to_15 :
    [0xEE1E0F1C#32, 0xEE1E0F3C#32, 0xEE1E0F5C#32, 0xEE1E0F7C#32, 0xEE1E0F9C#32, 0xEE1E0FBC#32, 0xEE1E0FDC#32, 0xEE1E0FFC#32,
      0xEE1E0F1D#32, 0xEE1E0F3D#32, 0xEE1E0F5D#32, 0xEE1E0F7D#32, 0xEE1E0F9D#32, 0xEE1E0FBD#32, 0xEE1E0FDD#32, 0xEE1E0FFD#32].map (fun w => (decodeWord .a32 w).toOption) =
      [some (.a32MrcPmevtyper0 14#4 0#4), some (.a32MrcPmevtyper1 14#4 0#4), some (.a32MrcPmevtyper2 14#4 0#4),
      some (.a32MrcPmevtyper3 14#4 0#4), some (.a32MrcPmevtyper4 14#4 0#4), some (.a32MrcPmevtyper5 14#4 0#4),
      some (.a32MrcPmevtyper6 14#4 0#4), some (.a32MrcPmevtyper7 14#4 0#4), some (.a32MrcPmevtyper8 14#4 0#4),
      some (.a32MrcPmevtyper9 14#4 0#4), some (.a32MrcPmevtyper10 14#4 0#4), some (.a32MrcPmevtyper11 14#4 0#4),
      some (.a32MrcPmevtyper12 14#4 0#4), some (.a32MrcPmevtyper13 14#4 0#4), some (.a32MrcPmevtyper14 14#4 0#4),
      some (.a32MrcPmevtyper15 14#4 0#4)] := by
  decide

theorem test_decode_a32_mrc_16_to_30 :
    [0xEE1E0F1E#32, 0xEE1E0F3E#32, 0xEE1E0F5E#32, 0xEE1E0F7E#32, 0xEE1E0F9E#32, 0xEE1E0FBE#32, 0xEE1E0FDE#32, 0xEE1E0FFE#32,
      0xEE1E0F1F#32, 0xEE1E0F3F#32, 0xEE1E0F5F#32, 0xEE1E0F7F#32, 0xEE1E0F9F#32, 0xEE1E0FBF#32, 0xEE1E0FDF#32].map (fun w => (decodeWord .a32 w).toOption) =
      [some (.a32MrcPmevtyper16 14#4 0#4), some (.a32MrcPmevtyper17 14#4 0#4), some (.a32MrcPmevtyper18 14#4 0#4),
      some (.a32MrcPmevtyper19 14#4 0#4), some (.a32MrcPmevtyper20 14#4 0#4), some (.a32MrcPmevtyper21 14#4 0#4),
      some (.a32MrcPmevtyper22 14#4 0#4), some (.a32MrcPmevtyper23 14#4 0#4), some (.a32MrcPmevtyper24 14#4 0#4),
      some (.a32MrcPmevtyper25 14#4 0#4), some (.a32MrcPmevtyper26 14#4 0#4), some (.a32MrcPmevtyper27 14#4 0#4),
      some (.a32MrcPmevtyper28 14#4 0#4), some (.a32MrcPmevtyper29 14#4 0#4), some (.a32MrcPmevtyper30 14#4 0#4)] := by
  decide

theorem test_decode_a32_mcr_0_to_15 :
    [0xEE0E0F1C#32, 0xEE0E0F3C#32, 0xEE0E0F5C#32, 0xEE0E0F7C#32, 0xEE0E0F9C#32, 0xEE0E0FBC#32, 0xEE0E0FDC#32, 0xEE0E0FFC#32,
      0xEE0E0F1D#32, 0xEE0E0F3D#32, 0xEE0E0F5D#32, 0xEE0E0F7D#32, 0xEE0E0F9D#32, 0xEE0E0FBD#32, 0xEE0E0FDD#32, 0xEE0E0FFD#32].map (fun w => (decodeWord .a32 w).toOption) =
      [some (.a32McrPmevtyper0 14#4 0#4), some (.a32McrPmevtyper1 14#4 0#4), some (.a32McrPmevtyper2 14#4 0#4),
      some (.a32McrPmevtyper3 14#4 0#4), some (.a32McrPmevtyper4 14#4 0#4), some (.a32McrPmevtyper5 14#4 0#4),
      some (.a32McrPmevtyper6 14#4 0#4), some (.a32McrPmevtyper7 14#4 0#4), some (.a32McrPmevtyper8 14#4 0#4),
      some (.a32McrPmevtyper9 14#4 0#4), some (.a32McrPmevtyper10 14#4 0#4), some (.a32McrPmevtyper11 14#4 0#4),
      some (.a32McrPmevtyper12 14#4 0#4), some (.a32McrPmevtyper13 14#4 0#4), some (.a32McrPmevtyper14 14#4 0#4),
      some (.a32McrPmevtyper15 14#4 0#4)] := by
  decide

theorem test_decode_a32_mcr_16_to_30 :
    [0xEE0E0F1E#32, 0xEE0E0F3E#32, 0xEE0E0F5E#32, 0xEE0E0F7E#32, 0xEE0E0F9E#32, 0xEE0E0FBE#32, 0xEE0E0FDE#32, 0xEE0E0FFE#32,
      0xEE0E0F1F#32, 0xEE0E0F3F#32, 0xEE0E0F5F#32, 0xEE0E0F7F#32, 0xEE0E0F9F#32, 0xEE0E0FBF#32, 0xEE0E0FDF#32].map (fun w => (decodeWord .a32 w).toOption) =
      [some (.a32McrPmevtyper16 14#4 0#4), some (.a32McrPmevtyper17 14#4 0#4), some (.a32McrPmevtyper18 14#4 0#4),
      some (.a32McrPmevtyper19 14#4 0#4), some (.a32McrPmevtyper20 14#4 0#4), some (.a32McrPmevtyper21 14#4 0#4),
      some (.a32McrPmevtyper22 14#4 0#4), some (.a32McrPmevtyper23 14#4 0#4), some (.a32McrPmevtyper24 14#4 0#4),
      some (.a32McrPmevtyper25 14#4 0#4), some (.a32McrPmevtyper26 14#4 0#4), some (.a32McrPmevtyper27 14#4 0#4),
      some (.a32McrPmevtyper28 14#4 0#4), some (.a32McrPmevtyper29 14#4 0#4), some (.a32McrPmevtyper30 14#4 0#4)] := by
  decide

theorem test_decode_t32_mrc_0_to_15 :
    [0xEE1E0F1C#32, 0xEE1E0F3C#32, 0xEE1E0F5C#32, 0xEE1E0F7C#32, 0xEE1E0F9C#32, 0xEE1E0FBC#32, 0xEE1E0FDC#32, 0xEE1E0FFC#32,
      0xEE1E0F1D#32, 0xEE1E0F3D#32, 0xEE1E0F5D#32, 0xEE1E0F7D#32, 0xEE1E0F9D#32, 0xEE1E0FBD#32, 0xEE1E0FDD#32, 0xEE1E0FFD#32].map (fun w => (decodeWord .t32 w).toOption) =
      [some (.t32MrcPmevtyper0 0#4), some (.t32MrcPmevtyper1 0#4), some (.t32MrcPmevtyper2 0#4),
      some (.t32MrcPmevtyper3 0#4), some (.t32MrcPmevtyper4 0#4), some (.t32MrcPmevtyper5 0#4),
      some (.t32MrcPmevtyper6 0#4), some (.t32MrcPmevtyper7 0#4), some (.t32MrcPmevtyper8 0#4),
      some (.t32MrcPmevtyper9 0#4), some (.t32MrcPmevtyper10 0#4), some (.t32MrcPmevtyper11 0#4),
      some (.t32MrcPmevtyper12 0#4), some (.t32MrcPmevtyper13 0#4), some (.t32MrcPmevtyper14 0#4),
      some (.t32MrcPmevtyper15 0#4)] := by
  decide

theorem test_decode_t32_mrc_16_to_30 :
    [0xEE1E0F1E#32, 0xEE1E0F3E#32, 0xEE1E0F5E#32, 0xEE1E0F7E#32, 0xEE1E0F9E#32, 0xEE1E0FBE#32, 0xEE1E0FDE#32, 0xEE1E0FFE#32,
      0xEE1E0F1F#32, 0xEE1E0F3F#32, 0xEE1E0F5F#32, 0xEE1E0F7F#32, 0xEE1E0F9F#32, 0xEE1E0FBF#32, 0xEE1E0FDF#32].map (fun w => (decodeWord .t32 w).toOption) =
      [some (.t32MrcPmevtyper16 0#4), some (.t32MrcPmevtyper17 0#4), some (.t32MrcPmevtyper18 0#4),
      some (.t32MrcPmevtyper19 0#4), some (.t32MrcPmevtyper20 0#4), some (.t32MrcPmevtyper21 0#4),
      some (.t32MrcPmevtyper22 0#4), some (.t32MrcPmevtyper23 0#4), some (.t32MrcPmevtyper24 0#4),
      some (.t32MrcPmevtyper25 0#4), some (.t32MrcPmevtyper26 0#4), some (.t32MrcPmevtyper27 0#4),
      some (.t32MrcPmevtyper28 0#4), some (.t32MrcPmevtyper29 0#4), some (.t32MrcPmevtyper30 0#4)] := by
  decide

theorem test_decode_t32_mcr_0_to_15 :
    [0xEE0E0F1C#32, 0xEE0E0F3C#32, 0xEE0E0F5C#32, 0xEE0E0F7C#32, 0xEE0E0F9C#32, 0xEE0E0FBC#32, 0xEE0E0FDC#32, 0xEE0E0FFC#32,
      0xEE0E0F1D#32, 0xEE0E0F3D#32, 0xEE0E0F5D#32, 0xEE0E0F7D#32, 0xEE0E0F9D#32, 0xEE0E0FBD#32, 0xEE0E0FDD#32, 0xEE0E0FFD#32].map (fun w => (decodeWord .t32 w).toOption) =
      [some (.t32McrPmevtyper0 0#4), some (.t32McrPmevtyper1 0#4), some (.t32McrPmevtyper2 0#4),
      some (.t32McrPmevtyper3 0#4), some (.t32McrPmevtyper4 0#4), some (.t32McrPmevtyper5 0#4),
      some (.t32McrPmevtyper6 0#4), some (.t32McrPmevtyper7 0#4), some (.t32McrPmevtyper8 0#4),
      some (.t32McrPmevtyper9 0#4), some (.t32McrPmevtyper10 0#4), some (.t32McrPmevtyper11 0#4),
      some (.t32McrPmevtyper12 0#4), some (.t32McrPmevtyper13 0#4), some (.t32McrPmevtyper14 0#4),
      some (.t32McrPmevtyper15 0#4)] := by
  decide

theorem test_decode_t32_mcr_16_to_30 :
    [0xEE0E0F1E#32, 0xEE0E0F3E#32, 0xEE0E0F5E#32, 0xEE0E0F7E#32, 0xEE0E0F9E#32, 0xEE0E0FBE#32, 0xEE0E0FDE#32, 0xEE0E0FFE#32,
      0xEE0E0F1F#32, 0xEE0E0F3F#32, 0xEE0E0F5F#32, 0xEE0E0F7F#32, 0xEE0E0F9F#32, 0xEE0E0FBF#32, 0xEE0E0FDF#32].map (fun w => (decodeWord .t32 w).toOption) =
      [some (.t32McrPmevtyper16 0#4), some (.t32McrPmevtyper17 0#4), some (.t32McrPmevtyper18 0#4),
      some (.t32McrPmevtyper19 0#4), some (.t32McrPmevtyper20 0#4), some (.t32McrPmevtyper21 0#4),
      some (.t32McrPmevtyper22 0#4), some (.t32McrPmevtyper23 0#4), some (.t32McrPmevtyper24 0#4),
      some (.t32McrPmevtyper25 0#4), some (.t32McrPmevtyper26 0#4), some (.t32McrPmevtyper27 0#4),
      some (.t32McrPmevtyper28 0#4), some (.t32McrPmevtyper29 0#4), some (.t32McrPmevtyper30 0#4)] := by
  decide

theorem test_decode_slot31_is_not_in_this_spec :
    (decodeWord .a32 0xEE1E0FFF#32, decodeWord .t32 0xEE1E0FFF#32, decodeWord .a32 0xEE0E3FFF#32) =
      (.error .slot31, .error .slot31, .error .slot31) := by decide

theorem test_decode_other_words_are_not_in_this_spec :
    ([0xFE1E0F1C#32, 0xEE1E0E1C#32, 0xEE3E0F1C#32, 0xEE1D0F1C#32, 0xEE1E0F18#32, 0xEE1E0F0C#32, 0xED1E0F1C#32].map
      fun w => decodeWord .a32 w) =
      [.error .conditionOnes, .error .otherCoordinates, .error .otherCoordinates, .error .otherCoordinates,
        .error .otherCoordinates, .error .otherCoordinates, .error .otherCoordinates] := by decide

theorem test_decode_t32_has_no_condition_field : decodeWord .t32 0x0E1E0F1C#32 = .error .otherCoordinates := by decide

theorem test_decode_bytes_a32 :
    decodeBytes .a32 [0x9D#8, 0x1F#8, 0x1E#8, 0xEE#8, 0x7F#8] = .ok (.a32MrcPmevtyper12 14#4 1#4, [0x7F#8]) := by decide

theorem test_decode_bytes_t32 :
    decodeBytes .t32 [0x1E#8, 0xEE#8, 0x9D#8, 0x1F#8] = .ok (.t32MrcPmevtyper12 1#4, []) := by decide

theorem test_decode_bytes_too_short : decodeBytes .t32 [0x1E#8, 0xEE#8, 0x9D#8] = .error .tooShort := by decide

theorem test_encode_r1_and_r2 :
    encode (.a32MrcPmevtyper12 14#4 1#4) = 0xEE1E1F9D#32 ∧ encode (.a32McrPmevtyper30 14#4 2#4) = 0xEE0E2FDF#32 ∧
      encode (.t32MrcPmevtyper12 4#4) = 0xEE1E4F9D#32 ∧ encode (.t32McrPmevtyper30 3#4) = 0xEE0E3FDF#32 := by decide

theorem test_table_word : decodeTableWord 32 0xEE0E2F9D = some (.a32McrPmevtyper12 14#4 2#4) := by decide

/-! ### Write and read-back vectors WF, WM (section 3) -/

theorem test_write_full :
    ([0x00000000#32, 0xFFFFFFFF#32, 0xFFFF003F#32, 0x80000011#32, 0xB0000011#32, 0x08004005#32, 0x000000C5#32,
      0x00008001#32, 0x0000403F#32, 0x05FF0000#32, 0x02000008#32, 0x40000040#32].map (writtenReg .full)) =
      [⟨0x00000000#32, 0⟩, ⟨0xFA00FFFF#32, 0x0000FFFF#32⟩, ⟨0xFA00003F#32, 0⟩, ⟨0x80000011#32, 0⟩, ⟨0xB0000011#32, 0⟩,
        ⟨0x08004005#32, 0⟩, ⟨0x000000C5#32, 0x0000FFFF#32⟩, ⟨0x00008001#32, 0x0000FFFF#32⟩, ⟨0x0000403F#32, 0⟩,
        ⟨0x00000000#32, 0⟩, ⟨0x02000008#32, 0⟩, ⟨0x40000040#32, 0x0000FFFF#32⟩] := by decide

theorem test_write_mini :
    ([0x00000000#32, 0xFFFFFFFF#32, 0xFFFF003F#32, 0x80000011#32, 0xB0000011#32, 0x08004005#32, 0x000000C5#32,
      0x00008001#32, 0x0000403F#32, 0x05FF0000#32, 0x02000008#32, 0x40000040#32].map (writtenReg .mini)) =
      [⟨0x00000000#32, 0⟩, ⟨0xC00003FF#32, 0x000003FF#32⟩, ⟨0xC000003F#32, 0⟩, ⟨0x80000011#32, 0⟩, ⟨0x80000011#32, 0⟩,
        ⟨0x00000005#32, 0⟩, ⟨0x000000C5#32, 0x000003FF#32⟩, ⟨0x00000001#32, 0⟩, ⟨0x0000003F#32, 0⟩, ⟨0x00000000#32, 0⟩,
        ⟨0x00000008#32, 0⟩, ⟨0x40000040#32, 0x000003FF#32⟩] := by decide

/-- WF2 with `Res0Stateful` = true: the register keeps the value whole, the same UNK applies. -/
theorem test_write_keeps_res0_bits :
    writtenReg { Impl.full with res0Stateful := true } 0xFFFFFFFF#32 = ⟨0xFFFFFFFF#32, 0x0000FFFF#32⟩ := by decide

/-- WF2: the next MRC returns 0xFA00????, whatever is drawn. -/
theorem test_read_back_known_half (d : Word) :
    readValue .full ⟨0xFA00FFFF#32, 0x0000FFFF#32⟩ d &&& 0xFFFF0000#32 = 0xFA000000#32 := by
  rw [readValue_fixed _ _ _ (by decide)]; decide

/-- WF4: what was written comes back, whatever is drawn. -/
theorem test_read_back_known (d : Word) : readValue .full ⟨0x80000011#32, 0⟩ d = 0x80000011#32 := by
  rw [readValue_known]; decide

/-- R34: a RES0 bit that another view set reads as 0, or as held when RES0 bits hold state. -/
theorem test_read_res0_bits (d : Word) :
    readValue .full ⟨0x05FF0000#32, 0⟩ d = 0 ∧
      readValue { Impl.full with res0Stateful := true } ⟨0x05FF0000#32, 0⟩ d = 0x05FF0000#32 := by
  rw [readValue_known, readValue_known]; decide

/-! ### Filter tables (section 4) -/

/-- An occurrence on the controlling PE. -/
def occ : Occurrence := ⟨0, .controllingPE, 0x0008#16⟩

/-- The default context at an Exception level in a Security state. -/
def ctxIn (el : EL) (secure : Bool) : Ctx := { ctxAt el with secure := secure }

/-- S EL0, NS EL0, S EL1, NS EL1, NS EL2 of a value. -/
def filterRow (c : Impl) (v : Word) : List Bool :=
  [ctxIn .el0 true, ctxIn .el0 false, ctxIn .el1 true, ctxIn .el1 false, ctxIn .el2 false].map
    fun x => filterAllows c x occ 0 v

theorem test_filter_rows_U0_P0 :
    ([0x00000000#32, 0x08000000#32, 0x10000000#32, 0x18000000#32, 0x20000000#32, 0x28000000#32, 0x30000000#32,
      0x38000000#32].map (filterRow .full)) =
      [[true, true, true, true, false], [true, true, true, true, true], [true, false, true, true, false],
        [true, false, true, true, true], [true, true, true, false, false], [true, true, true, false, true],
        [true, false, true, false, false], [true, false, true, false, true]] := by decide

theorem test_filter_rows_U1_P0 :
    ([0x40000000#32, 0x48000000#32, 0x50000000#32, 0x58000000#32, 0x60000000#32, 0x68000000#32, 0x70000000#32,
      0x78000000#32].map (filterRow .full)) =
      [[false, false, true, true, false], [false, false, true, true, true], [false, true, true, true, false],
        [false, true, true, true, true], [false, false, true, false, false], [false, false, true, false, true],
        [false, true, true, false, false], [false, true, true, false, true]] := by decide

theorem test_filter_rows_U0_P1 :
    ([0x80000000#32, 0x88000000#32, 0x90000000#32, 0x98000000#32, 0xA0000000#32, 0xA8000000#32, 0xB0000000#32,
      0xB8000000#32].map (filterRow .full)) =
      [[true, true, false, false, false], [true, true, false, false, true], [true, false, false, false, false],
        [true, false, false, false, true], [true, true, false, true, false], [true, true, false, true, true],
        [true, false, false, true, false], [true, false, false, true, true]] := by decide

theorem test_filter_rows_U1_P1 :
    ([0xC0000000#32, 0xC8000000#32, 0xD0000000#32, 0xD8000000#32, 0xE0000000#32, 0xE8000000#32, 0xF0000000#32,
      0xF8000000#32].map (filterRow .full)) =
      [[false, false, false, false, false], [false, false, false, false, true], [false, true, false, false, false],
        [false, true, false, false, true], [false, false, false, true, false], [false, false, false, true, true],
        [false, true, false, true, false], [false, true, false, true, true]] := by decide

theorem test_filter_without_EL3 :
    ([0x00000000#32, 0x70000000#32, 0xB0000000#32, 0xF0000000#32].map
      fun v => [filterAllows .mini (ctxIn .el0 false) occ 0 v, filterAllows .mini (ctxIn .el1 false) occ 0 v]) =
      [[true, true], [false, true], [true, false], [false, false]] := by decide

theorem test_multithreading :
    originCounted .full 0x02000008#32 (.otherPE [0]) = true ∧ originCounted .full 0x02000008#32 (.otherPE [1]) = false ∧
      originCounted .full 0x00000008#32 (.otherPE [0]) = false ∧
      originCounted .mini 0x02000008#32 (.otherPE [0]) = false ∧ originCounted .mini 0 .controllingPE = true := by decide

/-! ### Access-check vectors A1 to A27 (section 5), register 0 -/

/-- `EL2Enabled` with both `HPMN` = 6, as the rows set them. -/
def el2On (x : Ctx) : Ctx := { x with el2Enabled := true, mdcrEL2HPMN := 6, hdcrHPMN := 6 }

/-- The fine-grained trap context of A13: AArch64 everywhere, enabled at EL0, the read bit set. -/
def ctxFgt : Ctx :=
  { el2On (ctxA64 .el0) with pmuserenrEL0EN := 1, scrEL3FGTEn := 1, hdfgrtrEL2PMEVTYPERn := 1 }

theorem test_access_EL3 :
    accessBehaviours .full (ctxAt .el3) .mrc 0 = [.inRange] ∧
      accessBehaviours .full
        { ctxAt .el3 with a32EL3 := false, el2Enabled := true, mdcrEL2TPM := 1, hdcrTPM := 1, mdcrEL3TPM := 1 } .mrc 0 =
        [.inRange] ∧
      accessBehaviours { Impl.full with havePMUv3 := false } (ctxAt .el3) .mrc 0 = [.raise .undefined] := by decide

theorem test_access_EL2 :
    accessBehaviours .full { ctxAt .el2 with a32EL3 := false, mdcrEL3TPM := 1 } .mrc 0 = [.raise (.trapA64 .el3 3)] ∧
      accessBehaviours .full { ctxAt .el2 with mdcrEL3TPM := 1 } .mrc 0 = [.inRange] ∧
      accessBehaviours .full
        { ctxAt .el2 with a32EL2 := false, a32EL3 := false, el2Enabled := true, mdcrEL2TPM := 1, hdcrTPM := 1 } .mrc 0 =
        [.inRange] := by decide

theorem test_access_EL1 :
    accessBehaviours .full { el2On (ctxAt .el1) with a32EL2 := false, a32EL3 := false, mdcrEL2TPM := 1, mdcrEL3TPM := 1 }
        .mcr 0 = [.raise (.trapA64 .el2 3)] ∧
      accessBehaviours .full { el2On (ctxAt .el1) with hdcrTPM := 1 } .mcr 0 = [.raise (.hypTrap 3)] ∧
      accessBehaviours .full { ctxAt .el1 with hdcrTPM := 1 } .mcr 0 = [.inRange] ∧
      accessBehaviours .full { el2On (ctxAt .el1) with a32EL3 := false, mdcrEL3TPM := 1 } .mrc 0 =
        [.raise (.trapA64 .el3 3)] := by decide

theorem test_access_EL0_not_enabled :
    accessBehaviours .full (ctxAt .el0) .mrc 0 = [.raise .undefined] ∧
      accessBehaviours .full { el2On (ctxAt .el0) with hcrTGE := 1 } .mrc 0 = [.raise (.hypTrap 0)] ∧
      accessBehaviours .full { el2On (ctxAt .el0) with a32EL2 := false, a32EL3 := false, hcrEL2TGE := 1 } .mrc 0 =
        [.raise (.trapA64 .el2 3)] ∧
      accessBehaviours .full (ctxA64 .el0) .mrc 0 = [.raise (.trapA64 .el1 3)] ∧
      accessBehaviours .full { el2On (ctxA64 .el0) with hcrEL2TGE := 1 } .mrc 0 = [.raise (.trapA64 .el2 3)] ∧
      accessBehaviours .full { ctxAt .el0 with pmuserenrEL0EN := 1 } .mrc 0 = [.raise .undefined] := by decide

theorem test_access_EL0_fine_grained :
    accessBehaviours .full ctxFgt .mrc 0 = [.raise (.trapA64 .el2 3)] ∧
      accessBehaviours .full ctxFgt .mcr 0 = [.inRange] ∧
      accessBehaviours .full { ctxFgt with scrEL3FGTEn := 0 } .mrc 0 = [.inRange] ∧
      accessBehaviours .full { ctxFgt with hcrEL2TGE := 1, hcrEL2E2H := 1 } .mrc 0 = [.inRange] ∧
      accessBehaviours .full { ctxFgt with mdcrEL2TPM := 1, mdcrEL3TPM := 1 } .mrc 0 = [.raise (.trapA64 .el2 3)] ∧
      accessBehaviours { Impl.full with haveFGT := false } ctxFgt .mrc 0 = [.inRange] ∧
      accessBehaviours .full { ctxFgt with hdfgrtrEL2PMEVTYPERn := 0, hdfgwtrEL2PMEVTYPERn := 1 } .mcr 0 =
        [.raise (.trapA64 .el2 3)] ∧
      accessBehaviours { Impl.full with haveEL3 := false } { ctxFgt with scrEL3FGTEn := 0, a32EL3 := true } .mrc 0 =
        [.raise (.trapA64 .el2 3)] ∧
      accessBehaviours .full { ctxFgt with a32EL2 := true, a32EL3 := true } .mrc 0 = [.raise (.trapA64 .el2 3)] := by
  decide

theorem test_access_EL0_enabled :
    accessBehaviours .full { el2On (ctxAt .el0) with pmuserenrEN := 1, hdcrTPM := 1 } .mrc 0 = [.raise (.hypTrap 3)] ∧
      accessBehaviours .full { ctxAt .el0 with a32EL3 := false, pmuserenrEN := 1, mdcrEL3TPM := 1 } .mrc 0 =
        [.raise (.trapA64 .el3 3)] ∧
      accessBehaviours .full { ctxAt .el0 with pmuserenrEN := 1 } .mrc 0 = [.inRange] := by decide

/-! ### Counter-range vectors B1 to B21 (section 6) -/

/-- The set without and with the range trap. -/
def three : List Behaviour := [.raise .undefined, .razWi, .nop]
def four : List Behaviour := three ++ [.raise .trapEL2Range]

theorem test_range_EL3_EL2 :
    accessBehaviours .full (ctxAt .el3) .mrc 5 = [.inRange] ∧ accessBehaviours .full (ctxAt .el3) .mrc 6 = three ∧
      accessBehaviours .full { ctxAt .el2 with el2Enabled := true } .mrc 30 = three ∧
      accessBehaviours .full { ctxAt .el2 with el2Enabled := true, hdcrHPMN := 4 } .mcr 4 = [.inRange] ∧
      accessBehaviours { Impl.full with numCounters := 0 } (ctxAt .el3) .mrc 0 = three ∧
      accessBehaviours { Impl.full with numCounters := 31 } (ctxAt .el3) .mrc 30 = [.inRange] := by decide

theorem test_range_EL1 :
    accessBehaviours .full { ctxAt .el1 with el2Enabled := true, hdcrHPMN := 4 } .mcr 3 = [.inRange] ∧
      accessBehaviours .full { ctxAt .el1 with el2Enabled := true, hdcrHPMN := 4 } .mcr 4 = four ∧
      accessBehaviours .full { ctxAt .el1 with el2Enabled := true, hdcrHPMN := 4 } .mcr 6 = three ∧
      accessBehaviours .full { ctxAt .el1 with hdcrHPMN := 4 } .mcr 4 = [.inRange] ∧
      accessBehaviours .full
        { ctxAt .el1 with a32EL2 := false, a32EL3 := false, el2Enabled := true, mdcrEL2HPMN := 4, hdcrHPMN := 6 } .mcr 4 =
        four ∧
      accessBehaviours .full { ctxAt .el1 with el2Enabled := true, hdcrTPM := 1, hdcrHPMN := 4 } .mcr 4 =
        .raise (.hypTrap 3) :: four ∧
      accessBehaviours .full { ctxAt .el1 with el2Enabled := true, hdcrHPMN := 8 } .mrc 7 = three ∧
      accessBehaviours .full { ctxAt .el1 with el2Enabled := true } .mrc 0 = four := by decide

/-- AArch64 everywhere, enabled at EL0, `MDCR_EL2.HPMN` = 4: B10 to B13. -/
def ctxRange : Ctx := { ctxA64 .el0 with el2Enabled := true, pmuserenrEL0EN := 1, mdcrEL2HPMN := 4 }

theorem test_range_EL0 :
    accessBehaviours .full ctxRange .mrc 4 = [.raise .trapEL2Range] ∧
      accessBehaviours .full ctxRange .mrc 6 = [.raise .undefined] ∧ accessBehaviours .full ctxRange .mrc 3 = [.inRange] ∧
      accessBehaviours { Impl.full with haveFGT := false } ctxRange .mrc 4 = four ∧
      accessBehaviours .full { ctxAt .el0 with el2Enabled := true, hdcrHPMN := 4 } .mrc 4 = .raise .undefined :: three ∧
      accessBehaviours .full { ctxRange with scrEL3FGTEn := 1, hdfgrtrEL2PMEVTYPERn := 1 } .mrc 4 =
        [.raise (.trapA64 .el2 3), .raise .trapEL2Range] ∧
      accessBehaviours .full { ctxAt .el0 with el2Enabled := true, pmuserenrEN := 1, hdcrHPMN := 4 } .mrc 4 = four := by
  decide

/-! ### evtCount vectors (section 7) and reset vectors Z1 to Z3 (section 8) -/

theorem test_event_readback_full :
    ([0x0000#16, 0x0008#16, 0x0011#16, 0x003F#16, 0x4000#16, 0x403F#16].map (evtReadbackUnknown .full)) =
        [false, false, false, false, false, false] ∧
      ([0x0040#16, 0x00BF#16, 0x00C0#16, 0x03FF#16, 0x0400#16, 0x3FFF#16, 0x4040#16, 0x40C0#16, 0x7FFF#16, 0x8000#16,
        0xFFFF#16].map (evtReadbackUnknown .full)) =
        [true, true, true, true, true, true, true, true, true, true, true] := by decide

theorem test_event_readback_mini :
    ([0x0000#16, 0x0008#16, 0x003F#16, 0x0040#16, 0x00C0#16, 0x03FF#16].map (evtReadbackUnknown .mini)) =
      [false, false, false, true, true, true] := by decide

theorem test_event_selected :
    [0x0008#32, 0x0011#32, 0x003F#32, 0x4000#32, 0x403F#32].map (selectedEvent .full occ 3) =
      [some 0x0008#16, some 0x0011#16, none, none, none] := by decide

theorem test_event_number_without_extension : evtNum .mini 0x08004005#32 = 0x0005#16 ∧ evtNum .full 0x08004005#32 = 0x4005#16 := by
  decide

theorem test_reset_masks :
    resetUnknown .full = 0xFA00FFFF#32 ∧ resetUnknown .mini = 0xC00003FF#32 ∧
      resetUnknown { Impl.full with res0Stateful := true } = 0xFFFFFFFF#32 := by decide

/-! ### Single steps (section 9) -/

/-- P1 step 1: MCR at EL1, just after a reset of the bank. -/
def p1 : State := (stateWith .full (ctxAt .el1) 0xEE0E0F1C 0x80000011 0xDEADBEEF).resetBank

theorem test_P1_step1 :
    goesOn (step p1) (fun t => t.pmevtyper[0] == 0x80000011#32 && t.unk[0] == 0 && t.unk[1] == 0xFA00FFFF#32 &&
      t.pc == 0x1004#32 && t.readX 0 == 0x80000011#32 && t.readX 1 == 0xDEADBEEF#32) = true := by decide

/-- P1 step 2: the read returns the value written, whatever is drawn. -/
theorem test_P1_step2 :
    ∃ t, exec (.a32MrcPmevtyper0 14#4 1#4) (p1.setReg 0 ⟨0x80000011#32, 0⟩) = .next t ∧ t.readX 1#4 = 0x80000011#32 ∧
      t.readX 0#4 = 0x80000011#32 ∧ t.pc = 0x1004#32 := by
  refine ⟨_, rfl, ?_, by decide, by decide⟩
  rw [State.readX_advance, State.transfer, State.readX_writeX_same _ (by decide), State.reg_setReg_same,
    readValue_known]
  decide

/-- P2: two registers in different CRm groups, at EL2 with N = 31; the write goes to register 30 and to no other. -/
theorem test_P2_write_30 :
    goesOn (step (stateWith { Impl.full with numCounters := 31 } { ctxAt .el2 with el2Enabled := true } 0xEE0E1FDF 0
      0x08004005))
      (fun t => t.pmevtyper[30] == 0x08004005#32 && t.unk[30] == 0 && t.pmevtyper[12] == 0 && t.pc == 0x1004#32) = true := by
  decide

/-- P3: an EL0 access that is not enabled. -/
theorem test_P3 : faultsWith (step (stateWith .full (ctxAt .el0) 0xEE1E1F1C)) .undefined = true := by decide

/-- P4 (a) and (b): the same word trapped at EL1 and made at EL2. -/
theorem test_P4a :
    faultsWith (step (stateWith .full { ctxAt .el1 with el2Enabled := true, hdcrTPM := 1, hdcrHPMN := 6 } 0xEE0E0F3C))
      (.hypTrap 3) = true := by decide

theorem test_P4b :
    goesOn (step (stateWith .full { ctxAt .el2 with el2Enabled := true, hdcrTPM := 1, hdcrHPMN := 6 } 0xEE0E0F3C
      0x08000008)) (fun t => t.pmevtyper[1] == 0x08000008#32 && t.unk[1] == 0 && t.pc == 0x1004#32) = true := by decide

/-- P5: beyond the implemented counters the admitted outcomes are three. -/
theorem test_P5 : accessBehaviours .full (ctxAt .el3) .mrc 8 = three := by decide

/-- P6 step 1, both values of `Res0Stateful`. -/
theorem test_P6_step1 :
    goesOn (step (stateWith .mini (ctxAt .el1) 0xEE0E0F3C 0xFFFFFFFF))
        (fun t => t.pmevtyper[1] == 0xC00003FF#32 && t.unk[1] == 0x3FF#32) = true ∧
      goesOn (step (stateWith { Impl.mini with res0Stateful := true } (ctxAt .el1) 0xEE0E0F3C 0xFFFFFFFF))
        (fun t => t.pmevtyper[1] == 0xFFFFFFFF#32 && t.unk[1] == 0x3FF#32) = true := by decide

/-- A T32 program: hw1 lies first in memory. -/
theorem test_step_t32 :
    goesOn (step (({ stateOf .full (ctxAt .el3) 0 0x11 with iset := .t32 } : State).withFetchWord 32 0xEE0E1F3C))
      (fun t => t.pmevtyper[1] == 0x11#32 && t.pc == 0x1004#32 && t.mem.read 0x1000 == some 0x0E#8) = true := by decide

/-- Section 2: `Rt` = 15 and a condition other than always are refused, index 31 is not decoded. -/
theorem test_refused_forms :
    refusesWith (step (stateWith .full (ctxAt .el3) 0xEE1EFF1C)) .rtIsFifteen = true ∧
      refusesWith (step (stateWith .full (ctxAt .el3) 0x0E1E0F1C)) .conditionNotAlways = true ∧
      refusesWith (step (stateWith .full (ctxAt .el3) 0xEE1E0FFF)) (.notInThisSpec .slot31) = true ∧
      faultsWith (step State.reset) .noInstruction = true := by decide

/-- A write through another view, then a reset: the environment's turns. -/
theorem test_environment_turns :
    goesOn (step { stateOf .full (ctxAt .el1) with turns := [.env (.viewWrite .external 5 0xFFFF003F#32 0x80000000#32)] })
        (fun t => t.pmevtyper[5] == 0xFFFF003F#32 && t.unk[5] == 0x80000000#32 && t.pc == 0x1000#32) = true ∧
      goesOn (step { stateOf .full (ctxAt .el1) with
        turns := [.env (.reset .warm ⟨Vector.replicate 15 7#32, 0x40#32, .t32, ctxAt .el2⟩)] })
        (fun t => t.unk[30] == 0xFA00FFFF#32 && t.pc == 0x40#32 && t.readX 3 == 7#32 && t.ctx.el == .el2) = true := by
  decide

/-! ### Witnesses: the hypotheses of every statement that has some, met together -/

theorem witness_DecodeOfEncodeGivesItBack :
    (Instr.a32MrcPmevtyper0 0#4 15#4).WellFormed ∧ (Instr.t32McrPmevtyper30 0#4).WellFormed := by decide

theorem witness_EncodeOfDecodedIsTheWord :
    decodeWord .a32 0x1E1EFFDF#32 = .ok (.a32MrcPmevtyper30 1#4 15#4) ∧
      decodeWord .t32 0xEE0E0F1C#32 = .ok (.t32McrPmevtyper0 0#4) := by decide

theorem witness_RowsAreSelectedByMaskAndMatch :
    decodeWord .a32 0x0E1E0F9D#32 = .ok (.a32MrcPmevtyper12 0#4 0#4) ∧ 0x0E1E0F9D#32 &&& 0x0FFF0FFF#32 = 0x0E1E0F9D#32 ∧
      decodeWord .t32 0xEE0EFFDF#32 = .ok (.t32McrPmevtyper30 15#4) ∧
      0xEE0EFFDF#32 &&& 0xFFFF0FFF#32 = 0xEE0E0FDF#32 := by decide

theorem witness_IndexThirtyOneIsNotInThisSpec :
    0xEE1E0FFF#32 &&& 0x0FEF0FFF#32 = 0x0E0E0FFF#32 ∧ 0xEE1E0FFF#32 &&& 0xF0000000#32 ≠ 0xF0000000#32 ∧
      0xEE1E0FFF#32 &&& 0xF0000000#32 = 0xE0000000#32 := by decide

theorem witness_StepRunsTheDecodedInstruction :
    p1.fetch = some 0xEE0E0F1C#32 ∧ decodeWord p1.iset 0xEE0E0F1C#32 = .ok (.a32McrPmevtyper0 14#4 0#4) ∧ p1.turns = [] ∧
      ({ p1 with turns := [.pe] } : State).fetch = some 0xEE0E0F1C#32 := by decide

theorem witness_UndecodedWordIsRefused :
    (stateWith .full (ctxAt .el3) 0xEE1E0FFF).fetch = some 0xEE1E0FFF#32 ∧
      decodeWord .a32 0xEE1E0FFF#32 = .error .slot31 ∧
      ∀ ev rest, (stateWith .full (ctxAt .el3) 0xEE1E0FFF).turns ≠ .env ev :: rest :=
  ⟨by decide, by decide, fun _ _ h => by cases h⟩

theorem witness_StoredWordIsRunNext :
    (Instr.a32MrcPmevtyper3 14#4 2#4).WellFormed ∧ (Instr.a32MrcPmevtyper3 14#4 2#4).iset = State.reset.iset ∧
      State.reset.turns = [] := by decide

/-- The PE state the environment's turns below bring. -/
def somePE : PE := ⟨Vector.replicate 15 7#32, 0x40#32, .t32, ctxAt .el0⟩

theorem witness_QuietEnvironmentTurnKeepsTheBank :
    ({ p1 with turns := [.env (.surroundings somePE), .pe] } : State).turns = .env (.surroundings somePE) :: [.pe] ∧
      ({ p1 with turns := [.env .contextSync] } : State).turns = .env .contextSync :: [] := by decide

theorem witness_RtFifteenIsRefused :
    (Instr.t32MrcPmevtyper7 15#4).rt = 15#4 ∧ (Instr.a32McrPmevtyper7 0#4 15#4).rt = 15#4 := by decide

theorem witness_ConditionalFormIsRefused : (Instr.a32McrPmevtyper7 0#4 3#4).cond ≠ condAlways := by decide

/-- At EL3, EL2, EL1 (EL2 limiting to 6) and EL0 (enabled, fine-grained range rule), at the last implemented counter. -/
theorem witness_ReadInRangeCompletes :
    (Instr.a32MrcPmevtyper5 14#4 14#4).Admitted ∧ (Instr.t32MrcPmevtyper5 0#4).Admitted ∧
      (Instr.a32MrcPmevtyper5 14#4 14#4).kind = .mrc ∧ Impl.full.havePMUv3 = true ∧
      ((ctxAt .el3).CheckPasses .full .mrc ∧ (ctxAt .el3).InReach .full 5) ∧
      ((ctxAt .el2).CheckPasses .full .mrc ∧ (ctxAt .el2).InReach .full 5) ∧
      ((el2On (ctxAt .el1)).CheckPasses .full .mrc ∧ (el2On (ctxAt .el1)).InReach .full 5) ∧
      ({ ctxFgt with hdfgrtrEL2PMEVTYPERn := 0 }.CheckPasses .full .mrc ∧
        { ctxFgt with hdfgrtrEL2PMEVTYPERn := 0 }.InReach .full 5) := by
  simp only [← accessCheck_proceed_iff]
  refine ⟨?_, ?_, ?_, ?_, ?_, ?_, ?_, ?_⟩ <;> decide

theorem witness_WriteInRangeCompletes :
    (Instr.a32McrPmevtyper5 14#4 14#4).Admitted ∧ (Instr.t32McrPmevtyper5 0#4).Admitted ∧
      (Instr.a32McrPmevtyper5 14#4 14#4).kind = .mcr ∧ Impl.full.havePMUv3 = true ∧
      ((ctxAt .el3).CheckPasses .full .mcr ∧ (ctxAt .el3).InReach .full 5) ∧
      ((ctxAt .el2).CheckPasses .full .mcr ∧ (ctxAt .el2).InReach .full 5) ∧
      ((el2On (ctxAt .el1)).CheckPasses .full .mcr ∧ (el2On (ctxAt .el1)).InReach .full 5) ∧
      (ctxFgt.CheckPasses .full .mcr ∧ ctxFgt.InReach .full 5) := by
  simp only [← accessCheck_proceed_iff]
  refine ⟨?_, ?_, ?_, ?_, ?_, ?_, ?_, ?_⟩ <;> decide

theorem witness_CompletedAccessFrame :
    (∃ t, exec (.t32MrcPmevtyper2 3#4) (stateOf .full (ctxAt .el3)) = .next t) ∧
      ∃ t, exec (.a32McrPmevtyper2 14#4 3#4) (stateOf .full (ctxAt .el3)) = .next t := ⟨⟨_, rfl⟩, ⟨_, rfl⟩⟩

theorem witness_SameMeaningInBothInstructionSets :
    let i : Instr := .a32McrPmevtyper9 14#4 2#4
    let j : Instr := .t32McrPmevtyper9 2#4
    i.kind = j.kind ∧ i.reg = j.reg ∧ i.cond = j.cond ∧ i.rt = j.rt := by decide

theorem witness_AbsentPmuIsUndefined :
    (Instr.t32MrcPmevtyper0 0#4).Admitted ∧
      (stateOf { Impl.full with havePMUv3 := false } (ctxAt .el3)).impl.havePMUv3 = false := by decide

/-- Every arm at EL0: 0a.1, 0a.2; 0b.1, 0b.2, 0b.3; 0c; 0d; 0e; 0f; 0g. -/
theorem witness_AccessAtEL0 :
    (Instr.t32MrcPmevtyper0 0#4).Admitted ∧ (Instr.t32MrcPmevtyper0 0#4).reg = 0 ∧
      (∀ x ∈ [{ el2On (ctxA64 .el0) with hcrEL2TGE := 1 }, ctxA64 .el0,
          { el2On (ctxAt .el0) with a32EL2 := false, hcrEL2TGE := 1 }, { el2On (ctxAt .el0) with hcrTGE := 1 }, ctxAt .el0,
          ctxFgt, { ctxFgt with hdfgrtrEL2PMEVTYPERn := 0, mdcrEL2TPM := 1 },
          { el2On (ctxAt .el0) with pmuserenrEN := 1, hdcrTPM := 1 },
          { ctxAt .el0 with a32EL3 := false, pmuserenrEN := 1, mdcrEL3TPM := 1 }, { ctxAt .el0 with pmuserenrEN := 1 }],
        x.el = .el0 ∧ x.InReach .full 0) ∧
      ({ el2On (ctxA64 .el0) with hcrEL2TGE := 1 }.UserDisabled ∧ (ctxAt .el0).UserDisabled ∧
        ctxFgt.FineGrainedTrap .full .mrc ∧
        { ctxFgt with hdfgrtrEL2PMEVTYPERn := 0, mdcrEL2TPM := 1 }.TrapsToA64EL2 ∧
        { el2On (ctxAt .el0) with pmuserenrEN := 1, hdcrTPM := 1 }.TrapsToHyp ∧
        { ctxAt .el0 with a32EL3 := false, pmuserenrEN := 1, mdcrEL3TPM := 1 }.TrapsToEL3 .full) := by decide

theorem witness_AccessAtEL1 :
    (∀ x ∈ [{ el2On (ctxA64 .el1) with mdcrEL2TPM := 1 }, { el2On (ctxAt .el1) with hdcrTPM := 1 },
        { ctxA64 .el1 with mdcrEL3TPM := 1 }, ctxAt .el1], x.el = .el1 ∧ x.InReach .full 5) ∧
      { el2On (ctxA64 .el1) with mdcrEL2TPM := 1 }.TrapsToA64EL2 ∧ { el2On (ctxAt .el1) with hdcrTPM := 1 }.TrapsToHyp ∧
      { ctxA64 .el1 with mdcrEL3TPM := 1 }.TrapsToEL3 .full := by decide

theorem witness_AccessAtEL2 :
    (∀ x ∈ [{ ctxA64 .el2 with mdcrEL3TPM := 1 }, ctxAt .el2], x.el = .el2 ∧ x.InReach .full 5) ∧
      { ctxA64 .el2 with mdcrEL3TPM := 1 }.TrapsToEL3 .full := by decide

theorem witness_AccessAtEL3 :
    (Instr.a32McrPmevtyper5 14#4 0#4).Admitted ∧ (ctxAt .el3).el = .el3 ∧ (5 : Fin 31).val < Impl.full.numCounters.val := by
  decide

theorem witness_ChecksOfTheExceptionLevels :
    (ctxAt .el0).el = .el0 ∧ (ctxAt .el1).el = .el1 ∧ (ctxAt .el2).el = .el2 ∧ (ctxAt .el3).el = .el3 := by decide

theorem witness_AccessibleCounters :
    ((el2On (ctxAt .el1)).LimitedByEL2 ∧ (el2On (ctxAt .el1)).a32EL2 = true) ∧
      (ctxRange.LimitedByEL2 ∧ ctxRange.a32EL2 = false) ∧ ¬(ctxAt .el1).LimitedByEL2 ∧ ¬(el2On (ctxAt .el2)).LimitedByEL2 := by
  decide

/-- The three clauses at their edges: 6 = N, 5 and 4 from `HPMN` = 4 up, 3 below it. -/
theorem witness_RangeWithFineGrainedTraps :
    ctxRange.FineGrainedRange .full ∧ Impl.full.numCounters.val ≤ (6 : Fin 31).val ∧
      ((5 : Fin 31).val < Impl.full.numCounters.val ∧ ctxRange.mdcrEL2HPMN ≤ (4 : Fin 31).val) ∧
      (3 : Fin 31).val < ctxRange.mdcrEL2HPMN := by decide

theorem witness_RangeGeneralCase :
    ¬((ctxAt .el3).FineGrainedRange .full ∧
        (Impl.full.numCounters.val ≤ (6 : Fin 31).val ∨ (ctxAt .el3).mdcrEL2HPMN ≤ (6 : Fin 31).val)) ∧
      accessible .full (ctxAt .el3) ≤ (6 : Fin 31).val := by decide

/-- Below the accessible counters with storage (5) and without (7, `HPMN` = 8, vector B16). -/
theorem witness_RangeBelowAccessible :
    (¬(ctxAt .el3).FineGrainedRange .full ∧ (5 : Fin 31).val < accessible .full (ctxAt .el3)) ∧
      ¬{ ctxAt .el1 with el2Enabled := true, hdcrHPMN := 8 }.FineGrainedRange .full ∧
      (7 : Fin 31).val < accessible .full { ctxAt .el1 with el2Enabled := true, hdcrHPMN := 8 } ∧
      ¬(7 : Fin 31).val < Impl.full.numCounters.val := by decide

theorem witness_EveryOrderOfTheChecksIsAdmitted :
    Impl.full.havePMUv3 = true ∧ rangeBehaviours .full (ctxAt .el3) 5 = [.inRange] ∧
      rangeBehaviours .full (ctxAt .el3) 6 ≠ [.inRange] := by decide

theorem witness_OutcomeIsAdmitted : (Instr.a32McrPmevtyper6 14#4 0#4).Admitted := by decide

theorem witness_OutOfReachAccess :
    (Instr.a32MrcPmevtyper6 14#4 0#4).Admitted ∧ (ctxAt .el3).CheckPasses .full .mrc ∧
      ¬(ctxAt .el3).FineGrainedRange .full ∧ accessible .full (ctxAt .el3) ≤ (6 : Fin 31).val ∧
      Impl.full.rangeTrapForm = .abstract := by
  simp only [← accessCheck_proceed_iff]; decide

theorem witness_FineGrainedRangeAccess :
    (Instr.t32MrcPmevtyper6 0#4).Admitted ∧ ctxRange.CheckPasses .full .mrc ∧ ctxRange.FineGrainedRange .full ∧
      Impl.full.rangeTrapForm = .abstract ∧ Impl.full.numCounters.val ≤ (6 : Fin 31).val ∧
      (5 : Fin 31).val < Impl.full.numCounters.val ∧ ctxRange.mdcrEL2HPMN ≤ (5 : Fin 31).val := by
  simp only [← accessCheck_proceed_iff]; decide

theorem witness_RefinedRangeTrapTakesTheTpmForm :
    { Impl.full with rangeTrapForm := .likeTPM }.rangeTrapForm = .likeTPM ∧ (Instr.t32MrcPmevtyper4 0#4).Admitted ∧
      ctxRange.CheckPasses { Impl.full with rangeTrapForm := .likeTPM } .mrc ∧
      ctxRange.FineGrainedRange { Impl.full with rangeTrapForm := .likeTPM } ∧
      { ctxRange with a32EL2 := true }.FineGrainedRange { Impl.full with rangeTrapForm := .likeTPM } ∧
      { ctxRange with a32EL2 := true }.CheckPasses { Impl.full with rangeTrapForm := .likeTPM } .mrc ∧
      (4 : Fin 31).val < Impl.full.numCounters.val ∧ ctxRange.mdcrEL2HPMN ≤ (4 : Fin 31).val := by
  simp only [← accessCheck_proceed_iff]; decide

theorem witness_UnimplementedCounterHasNoStorage :
    (Instr.t32McrPmevtyper6 0#4).Admitted ∧ Impl.full.numCounters.val ≤ (Instr.t32McrPmevtyper6 0#4).reg.val := by decide

theorem witness_FaultsCarryTheSourcesCodes :
    exec (.t32MrcPmevtyper0 0#4) (stateOf .full (ctxAt .el0)) = .fault .undefined ∧
      exec (.t32MrcPmevtyper4 0#4) (stateOf .full ctxRange) = .fault .trapEL2Range := ⟨rfl, rfl⟩

theorem witness_TrapsAreRoutedByTheGuards :
    exec (.t32MrcPmevtyper0 0#4) (stateOf .full (ctxA64 .el0)) = .fault (.trapA64 .el1 3) ∧
      exec (.t32MrcPmevtyper0 0#4) (stateOf .full ctxFgt) = .fault (.trapA64 .el2 3) ∧
      exec (.t32McrPmevtyper0 0#4) (stateOf .full { el2On (ctxAt .el1) with hdcrTPM := 1 }) = .fault (.hypTrap 3) ∧
      exec (.t32MrcPmevtyper4 0#4) (stateOf .full ctxRange) = .fault .trapEL2Range ∧
      exec (.t32MrcPmevtyper0 0#4) (stateOf .full { ctxA64 .el2 with mdcrEL3TPM := 1 }) = .fault (.trapA64 .el3 3) ∧
      exec (.t32MrcPmevtyper0 0#4) (stateOf .full { el2On (ctxAt .el0) with hcrTGE := 1 }) = .fault (.hypTrap 0) :=
  ⟨rfl, rfl, rfl, rfl, rfl, rfl⟩

theorem witness_ReadAfterWriteReturnsTheValue :
    (Instr.a32McrPmevtyper5 14#4 0#4).Admitted ∧ (Instr.a32MrcPmevtyper5 14#4 1#4).Admitted ∧
      (Instr.a32McrPmevtyper5 14#4 0#4).reg = (Instr.a32MrcPmevtyper5 14#4 1#4).reg ∧
      (ctxAt .el1).CheckPasses .full .mcr ∧ (ctxAt .el1).CheckPasses .full .mrc ∧ (ctxAt .el1).InReach .full 5 := by
  simp only [← accessCheck_proceed_iff]; decide

/-- A write of register 0 keeps register 12: one step. -/
theorem witness_RegisterKeepsItsContent :
    quietFor 12 p1.turns = true ∧
      (∀ (j : Nat) (u : State) (i : Instr), j < 1 → Sys2Proof.core.run j p1 = .next u → u.currentInstr = some i →
        ¬(i.kind = .mcr ∧ i.reg = 12)) ∧
      (∃ t, Sys2Proof.core.run 1 p1 = .next t) ∧
      quietFor 12 [.env (.viewWrite .aarch64 11 1#32 0), .pe, .env .contextSync] = true := by
  refine ⟨by decide, fun j u i hj hr hi => ?_, ⟨_, rfl⟩, by decide⟩
  obtain rfl : j = 0 := by omega
  cases hr
  have hp : p1.currentInstr = some (.a32McrPmevtyper0 14#4 0#4) := by decide
  rw [hp] at hi
  cases hi
  decide

theorem witness_ResetLeavesTheBankUnknown :
    ({ p1 with turns := [.env (.reset .warm somePE)] } : State).turns = .env (.reset .warm somePE) :: [] ∧
      ({ p1 with turns := [.env (.reset .other somePE)] } : State).turns = .env (.reset .other somePE) :: [] := by decide

theorem witness_ResetOutsideTheBank :
    ({ p1 with turns := [.env (.reset .warm somePE), .pe] } : State).turns = .env (.reset .warm somePE) :: [.pe] := by decide

theorem witness_ReadAfterResetIsDrawn :
    (Instr.a32MrcPmevtyper30 14#4 0#4).Admitted ∧ State.reset.ctx.CheckPasses State.reset.impl .mrc ∧
      State.reset.ctx.InReach State.reset.impl 30 ∧
      State.reset.unk[(30 : Fin 31)] =
        rwMask State.reset.impl ||| (if State.reset.impl.res0Stateful then res0Mask State.reset.impl else 0) := by
  simp only [← accessCheck_proceed_iff]; decide

theorem witness_StepKeepsTheInvariant : p1.Inv ∧ ∃ t, step p1 = .next t := ⟨by decide, ⟨_, rfl⟩⟩

/-- The PE's write, and a view's. -/
theorem witness_OnlyAReachingWriteChangesARegister :
    (∃ t, step p1 = .next t ∧ t.pmevtyper[(0 : Fin 31)] ≠ p1.pmevtyper[(0 : Fin 31)]) ∧
      ∃ t, step ({ p1 with turns := [.env (.viewWrite .pmxevtyper 3 1#32 0)] } : State) = .next t ∧
        t.unk[(3 : Fin 31)] ≠ p1.unk[(3 : Fin 31)] := ⟨⟨_, rfl, by decide⟩, ⟨_, rfl, by decide⟩⟩

theorem witness_StepKeepsImplementationAndMemory : ∃ t, step p1 = .next t := ⟨_, rfl⟩

theorem witness_OtherRegistersDoNotMatter :
    let s := stateOf .full (ctxAt .el3)
    let t := s.setReg 4 ⟨5#32, 0⟩
    s.pmevtyper[(0 : Fin 31)] = t.pmevtyper[(0 : Fin 31)] ∧ s.unk[(0 : Fin 31)] = t.unk[(0 : Fin 31)] ∧ s.impl = t.impl ∧
      s.ctx = t.ctx ∧ s.gpr = t.gpr ∧ s.pc = t.pc ∧ s.draws = t.draws ∧ s.pmevtyper ≠ t.pmevtyper ∧
      (∃ u, exec (.t32MrcPmevtyper0 0#4) s = .next u) := ⟨by decide, by decide, rfl, rfl, rfl, rfl, rfl, by decide, ⟨_, rfl⟩⟩

theorem witness_MasksOfTheImplementation :
    let none : Impl := { Impl.mini with haveEL2 := false }
    (none.haveEL2 = false ∧ none.haveEL3 = false ∧ none.haveMTPMU = false ∧ none.havePMUv3p1 = false ∧
        rwMask none = 0xC00003FF#32) ∧
      Impl.full.haveEL2 = true ∧ Impl.full.haveEL3 = true ∧ Impl.full.haveMTPMU = true ∧ Impl.full.havePMUv3p1 = true ∧
      rwMask .full = 0xFA00FFFF#32 ∧ 31 < 32 := by decide

theorem witness_ValueAReadReturns : (0 : Nat) < 32 ∧ 31 < 32 := by decide

theorem witness_FilterAtEL1 :
    occ.origin = .controllingPE ∧ (ctxIn .el1 false).el = .el1 ∧ (ctxIn .el1 true).el = .el1 := by decide

theorem witness_FilterAtEL0 :
    occ.origin = .controllingPE ∧ (ctxIn .el0 false).el = .el0 ∧ (ctxIn .el0 true).el = .el0 := by decide

theorem witness_FilterAtNonSecureEL2 :
    occ.origin = .controllingPE ∧ (ctxIn .el2 false).el = .el2 ∧ Impl.full.haveEL2 = true ∧
      (ctxIn .el2 false).secure = false := by decide

/-- An occurrence on another PE. -/
def occOther : Occurrence := ⟨0, .otherPE [1], 0x0008#16⟩

theorem witness_OtherPEsAreCountedOnlyUnderMT :
    occOther.origin = .otherPE [1] ∧
      ¬((stateOf .full (ctxAt .el3)).impl.haveMTPMU = true ∧
        ((stateOf .full (ctxAt .el3)).governingValue occOther 0).getLsbD 25 = true ∧
        [1] = (stateOf .full (ctxAt .el3)).impl.upperAffinity) := ⟨rfl, fun h => absurd h.2.2 (by decide)⟩

/-- Register 0 holds 0x0000 and register 1 0x403F: the first and the second known range. -/
theorem witness_KnownRangesCountNothing :
    let s := { stateOf .full (ctxAt .el3) with pmevtyper := (Vector.replicate 31 0).set 1 0x403F }
    (0x0000#16 = evtNum s.impl (s.governingValue occ 0) ∧
        EventRange.covers s.impl.supportedEvents 0x0000#16 = false ∧ (0x0000#16).toNat ≤ 0x003F) ∧
      0x403F#16 = evtNum s.impl (s.governingValue occ 1) ∧
      EventRange.covers s.impl.supportedEvents 0x403F#16 = false ∧ s.impl.havePMUv3p1 = true ∧
      0x4000 ≤ (0x403F#16).toNat ∧ (0x403F#16).toNat ≤ 0x403F := by
  intro s
  rw [State.governingValue_of_known _ _ (by decide) (by decide),
    State.governingValue_of_known _ _ (by decide) (by decide)]
  decide

theorem witness_SupportedEventIsTheOneCounted :
    let s := { stateOf .full (ctxAt .el3) with pmevtyper := Vector.replicate 31 0x0008 }
    0x0008#16 = evtNum s.impl (s.governingValue occ 0) ∧
      EventRange.covers s.impl.supportedEvents 0x0008#16 = true := by
  intro s
  rw [State.governingValue_of_known _ _ (by decide) (by decide)]
  decide

theorem witness_OldOrNewValueGovernsUntilContextSync :
    (Instr.a32McrPmevtyper0 14#4 0#4).Admitted ∧ p1.ctx.CheckPasses p1.impl .mcr ∧ p1.ctx.InReach p1.impl 0 ∧
      ({ p1 with turns := [.env .contextSync] } : State).turns = .env .contextSync :: [] := by
  simp only [← accessCheck_proceed_iff]; decide

theorem witness_Res0BitsReachNoRule : 0x05FF0011#32 &&& rwMask .full = 0x00000011#32 &&& rwMask .full := by decide

theorem witness_FilterAfterResetIsDrawn :
    State.reset.superseded[(7 : Fin 31)] = [] ∧
      State.reset.unk[(7 : Fin 31)] =
        rwMask State.reset.impl ||| (if State.reset.impl.res0Stateful then res0Mask State.reset.impl else 0) := by decide

theorem witness_WriteThroughAnotherViewIsReadBack :
    (Instr.t32MrcPmevtyper5 0#4).kind = .mrc ∧ (Instr.t32MrcPmevtyper5 0#4).Admitted ∧
      (∀ v ∈ [View.pmxevtyper, View.aarch64, View.external],
        ({ p1 with turns := [.env (.viewWrite v 5 0x05FF00C5#32 0)] } : State).turns =
          .env (.viewWrite v (Instr.t32MrcPmevtyper5 0#4).reg 0x05FF00C5#32 0) :: []) ∧
      p1.ctx.CheckPasses p1.impl .mrc ∧ p1.ctx.InReach p1.impl 5 := by
  simp only [← accessCheck_proceed_iff]; decide

/-- A register whose supported event occurs, at EL0, EL1 and Non-secure EL2, in either Security state below EL2. -/
def countingAt (x : Ctx) : State := { stateOf .full x with pmevtyper := Vector.replicate 31 0xA8000008 }

theorem countingAt_value (x : Ctx) : (countingAt x).governingValue occ 0 = 0xA8000008#32 :=
  ((countingAt x).governingValue_of_known occ 0 (by simp [countingAt, stateOf, State.reset])
    (by simp [countingAt, stateOf])).trans (by simp [countingAt])

theorem witness_CountingReadsTheCurrentContext :
    occ.origin = .controllingPE ∧
      (∀ x ∈ [ctxIn .el0 true, ctxIn .el0 false, ctxIn .el1 true, ctxIn .el1 false, ctxIn .el2 false],
        occ.event = evtNum (countingAt x).impl ((countingAt x).governingValue occ 0) ∧
          EventRange.covers (countingAt x).impl.supportedEvents occ.event = true) ∧
      (countingAt (ctxIn .el2 false)).impl.haveEL2 = true ∧ (countingAt (ctxIn .el2 false)).ctx.secure = false := by
  simp only [countingAt_value]
  decide

/-- Section 4, row 0xA8000000: Non-secure EL1 is counted and Secure EL1 is not, by the state's own Security state. -/
theorem test_counting_reads_the_security_state :
    (countingAt (ctxIn .el1 false)).counted occ 0 = true ∧ (countingAt (ctxIn .el1 true)).counted occ 0 = false := by
  simp only [State.counted, countingAt_value]
  decide

end Sys2Proof.Machine.Slice0
end

namespace Sys2Proof.Machine

/-! ### The implementation and program memory (00_scope.md R6; 20_memory.md R60, R69) -/

@[simp] theorem State.transfer_impl (s : State) (k : Kind) (n : Fin 31) (x : BitVec 4) :
    (s.transfer k n x).impl = s.impl := by cases k <;> rfl

@[simp] theorem State.transfer_mem (s : State) (k : Kind) (n : Fin 31) (x : BitVec 4) :
    (s.transfer k n x).mem = s.mem := by cases k <;> rfl

@[simp] theorem State.razWi_impl (s : State) (k : Kind) (x : BitVec 4) : (s.razWi k x).impl = s.impl := by
  cases k <;> rfl

@[simp] theorem State.razWi_mem (s : State) (k : Kind) (x : BitVec 4) : (s.razWi k x).mem = s.mem := by
  cases k <;> rfl

/-- The two instructions move data between `x[t]` and the bank only (R60, R69), so each of the three ways an access
completes leaves the implementation and program memory. -/
theorem exec_next_impl_mem {i : Instr} {s t : State} (h : exec i s = .next t) : t.impl = s.impl ∧ t.mem = s.mem := by
  obtain ⟨-, ⟨-, rfl⟩ | ⟨-, rfl⟩ | ⟨-, rfl⟩⟩ := exec_next_cases h
  · simp only [State.advance_impl, State.transfer_impl, State.advance_mem, State.transfer_mem, and_self]
  · simp only [State.advance_impl, State.razWi_impl, State.advance_mem, State.razWi_mem, and_self]
  · simp only [State.advance_impl, State.advance_mem, and_self]

/-- No turn, the environment's or the PE's, changes the implementation or program memory. -/
theorem step_next_impl_mem {s t : State} (h : step s = .next t) : t.impl = s.impl ∧ t.mem = s.mem := by
  obtain ⟨e, rest, -, rfl⟩ | ⟨rest, w, i, -, -, -, hexec⟩ := step_next_cases h
  · obtain ⟨himpl, hmem, -⟩ := State.applyEnv_frame { s with turns := rest } e
    exact ⟨himpl, hmem⟩
  · obtain ⟨himpl, hmem⟩ := exec_next_impl_mem hexec
    exact ⟨himpl, hmem⟩

/-- Settles O48: an equal program memory reads the same at every address. -/
theorem stepKeepsImplementationAndMemory : Obligations.StepKeepsImplementationAndMemory := by
  intro s t h
  obtain ⟨himpl, hmem⟩ := step_next_impl_mem h
  exact ⟨himpl, fun a => congrArg (Memory.read · a) hmem⟩

end Sys2Proof.Machine

namespace Sys2Proof.Machine

/-! ### Masks and the bits of a register (10_state.md R21, R33, R34) -/

theorem maskWhen_getLsbD (p : Bool) (m : Word) (b : Nat) : (maskWhen p m).getLsbD b = (p && m.getLsbD b) := by
  cases p <;> simp [maskWhen]

/-- `RWMASK` bit by bit (R33): a bit is in it when its field exists. -/
theorem rwMask_getLsbD_iff (c : Impl) {b : Nat} (hb : b < 32) :
    (rwMask c).getLsbD b = true ↔
      b = 31 ∨ b = 30 ∨ ((b = 29 ∨ b = 28) ∧ c.haveEL3 = true) ∨ (b = 27 ∧ c.haveEL2 = true) ∨
        (b = 25 ∧ c.haveMTPMU = true) ∨ (10 ≤ b ∧ b ≤ 15 ∧ c.havePMUv3p1 = true) ∨ b ≤ 9 := by
  simp only [rwMask, BitVec.getLsbD_or, maskWhen_getLsbD]
  interval_cases b <;> simp

/-- `EVTMASK` bit by bit (R33): 16 bits with ARMv8.1-PMU, else ten. -/
theorem evtMask_getLsbD_iff (c : Impl) {b : Nat} (hb : b < 32) :
    (evtMask c).getLsbD b = true ↔ b ≤ 9 ∨ (b ≤ 15 ∧ c.havePMUv3p1 = true) := by
  cases hv : c.havePMUv3p1 <;> simp only [evtMask, hv] <;> interval_cases b <;> simp

/-- A mask has no bit outside another when the other leaves it as it is. -/
theorem and_not_eq_zero_iff {u k : Word} : u &&& ~~~k = 0 ↔ u &&& k = u := by
  constructor
  · intro h
    calc u &&& k = (u &&& k) ||| (u &&& ~~~k) := by simp [h]
      _ = u := by rw [← BitVec.and_or_distrib_left, BitVec.or_not_self, BitVec.and_allOnes]
  · intro h
    rw [← h, BitVec.and_assoc, BitVec.and_not_self]
    simp

/-- Every RW bit is a bit the register holds (R34, R116). -/
theorem rwMask_and_keepMask (c : Impl) : rwMask c &&& keepMask c = rwMask c := by
  cases h : c.res0Stateful
  · simp [keepMask, h]
  · rw [keepMask, h, if_pos rfl, word_ones, BitVec.and_allOnes]

/-- The event-number bits are bits the register holds (R33, R116). -/
theorem evtMask_and_keepMask (c : Impl) : evtMask c &&& keepMask c = evtMask c := by
  rw [← evtMask_and_rwMask, BitVec.and_assoc, rwMask_and_keepMask]

/-- With every bit the register holds UNKNOWN, a read gives the draw in those bits and 0 elsewhere (R115). -/
theorem readValue_allUnknown (c : Impl) (v d : Word) : readValue c ⟨v, keepMask c⟩ d = d &&& keepMask c := by
  rw [readValue, BitVec.and_assoc v, BitVec.and_not_self]
  simp

/-- A mask of UNKNOWN bits lets the draw alone through (R35). -/
theorem EvReg.resolve_and_of_unknown {r : EvReg} {m : Word} (h : m &&& r.unknown = m) (d : Word) :
    r.resolve d &&& m = d &&& m := by
  apply BitVec.eq_of_getLsbD_eq
  intro b hb
  have hm : (m &&& r.unknown).getLsbD b = m.getLsbD b := by rw [h]
  simp only [BitVec.getLsbD_and] at hm
  simp only [EvReg.resolve, BitVec.getLsbD_and, BitVec.getLsbD_or, BitVec.getLsbD_not, hb, decide_true, Bool.true_and]
  cases hu : r.unknown.getLsbD b
  · rw [hu, Bool.and_false] at hm
    simp [← hm]
  · simp

/-- Settles O36: bit by bit from `rwMask_getLsbD_iff` and
`evtMask_getLsbD_iff`; the extremes are the masks with every optional field absent, or every one present. -/
theorem masksOfTheImplementation : Obligations.MasksOfTheImplementation := by
  refine ⟨fun c b hb => ⟨rwMask_getLsbD_iff c hb, res0Mask_getLsbD hb, evtMask_getLsbD_iff c hb⟩,
    fun c => ?_, ?_, ?_⟩
  · apply BitVec.eq_of_getLsbD_eq
    intro b hb
    rw [BitVec.getLsbD_and, res0Mask_getLsbD hb]
    have hrw := rwMask_getLsbD_iff c hb
    interval_cases b <;> simp_all
  · intro c h2 h3 hm hp
    simp [rwMask, maskWhen, h2, h3, hm, hp]
  · intro c h2 h3 hm hp
    simp [rwMask, maskWhen, h2, h3, hm, hp]

/-! ### The invariant (R34, R35, R36; log 7) -/

/-- UNKNOWN bits within the bits a register holds make a content sound. -/
theorem EvReg.sound_of_and_keepMask {c : Impl} {r : EvReg} (h : r.unknown &&& keepMask c = r.unknown) : r.Sound c :=
  and_not_eq_zero_iff.2 h

/-- The bits a write leaves UNKNOWN, all of evtCount or none, are bits the register holds (R116). -/
theorem writtenUnknown_and_keepMask (c : Impl) (v : Word) :
    writtenUnknown c v &&& keepMask c = writtenUnknown c v := by
  cases h : evtReadbackUnknown c (evtNum c v)
  · simp [writtenUnknown, maskWhen, h]
  · simpa [writtenUnknown, maskWhen, h] using evtMask_and_keepMask c

theorem writtenReg_sound (c : Impl) (v : Word) : (writtenReg c v).Sound c :=
  EvReg.sound_of_and_keepMask (writtenUnknown_and_keepMask c v)

theorem viewWrittenReg_sound (c : Impl) (v u : Word) : (viewWrittenReg c v u).Sound c := by
  apply EvReg.sound_of_and_keepMask
  rw [viewWrittenReg, BitVec.and_or_distrib_right, writtenUnknown_and_keepMask, BitVec.and_assoc, BitVec.and_self]

theorem resetUnknown_sound (c : Impl) (v : Word) : EvReg.Sound c ⟨v, resetUnknown c⟩ := by
  apply EvReg.sound_of_and_keepMask
  rw [resetUnknown_eq_keepMask, BitVec.and_self]

/-- The invariant speaks of the implementation, program memory and the bank alone. -/
theorem State.Inv.of_same {s t : State} (hs : s.Inv) (hi : t.impl = s.impl) (hm : t.mem = s.mem) (hb : s.SameBank t) :
    t.Inv := by
  obtain ⟨hp, hu, hsup⟩ := hb
  refine ⟨hm ▸ hs.1, fun n => ?_⟩
  rw [State.reg_congr hp hu, hsup, hi]
  exact hs.2 n

/-- A new content adds the one it replaces to those that may still govern counting (R203). -/
theorem State.superseded_setReg_same (s : State) (n : Fin 31) (r : EvReg) :
    (s.setReg n r).superseded[n] = s.reg n :: s.superseded[n] := by simp

/-- A new content of one register adds nothing to those of another. -/
theorem State.superseded_setReg_other (s : State) {m n : Fin 31} (h : m ≠ n) (r : EvReg) :
    (s.setReg n r).superseded[m] = s.superseded[m] := by
  have h' : n.val ≠ m.val := fun e => h (Fin.ext e.symm)
  simp [Vector.getElem_set_ne, h']

/-- A sound content keeps the invariant: the content it replaces was sound already. -/
theorem State.Inv.setReg {s : State} (hs : s.Inv) {n : Fin 31} {r : EvReg} (hr : r.Sound s.impl) :
    (s.setReg n r).Inv := by
  obtain ⟨hmem, hbank⟩ := hs
  refine ⟨hmem, fun m => ?_⟩
  by_cases hmn : m = n
  · subst hmn
    rw [State.reg_setReg_same, State.superseded_setReg_same]
    exact ⟨hr, List.forall_mem_cons.2 (hbank m)⟩
  · rw [State.reg_setReg_other s hmn, State.superseded_setReg_other s hmn]
    exact hbank m

/-- The environment's turn keeps the invariant (R41). -/
theorem State.Inv.applyEnv {s : State} (hs : s.Inv) (e : EnvEvent) : (s.applyEnv e).Inv := by
  cases e with
  | viewWrite _ n value unknown => exact hs.setReg (viewWrittenReg_sound s.impl value unknown)
  | reset _ p =>
    refine ⟨hs.1, fun n => ?_⟩
    simp only [State.applyEnv, State.reg_withPE, State.reg_resetBank, State.withPE_superseded, State.withPE_impl,
      State.resetBank_superseded, State.resetBank_impl]
    exact ⟨resetUnknown_sound s.impl _, by simp⟩
  | surroundings p => exact hs.of_same rfl rfl ⟨rfl, rfl, rfl⟩
  | contextSync => exact ⟨hs.1, fun n => ⟨(hs.2 n).1, by simp [State.applyEnv]⟩⟩

/-- An instruction keeps the invariant: a transfer to the bank writes a sound content, and nothing else writes it. -/
theorem State.Inv.exec {s t : State} {i : Instr} (hs : s.Inv) (h : exec i s = .next t) : t.Inv := by
  obtain ⟨-, ⟨-, rfl⟩ | ⟨-, rfl⟩ | ⟨-, rfl⟩⟩ := exec_next_cases h
  · cases hk : i.kind with
    | mrc => exact hs.of_same rfl rfl ⟨rfl, rfl, rfl⟩
    | mcr => exact (hs.setReg (writtenReg_sound s.impl (s.readX i.rt))).of_same rfl rfl ⟨rfl, rfl, rfl⟩
  · cases hk : i.kind <;> exact hs.of_same rfl rfl ⟨rfl, rfl, rfl⟩
  · exact hs.of_same rfl rfl ⟨rfl, rfl, rfl⟩

/-- Settles O46: the turn taken off the list changes nothing the invariant speaks of, and each agent keeps it. -/
theorem stepKeepsTheInvariant : Obligations.StepKeepsTheInvariant := by
  intro s t hs h
  have hturn : ∀ rest, ({ s with turns := rest } : State).Inv := fun rest => hs.of_same rfl rfl ⟨rfl, rfl, rfl⟩
  obtain ⟨e, rest, -, rfl⟩ | ⟨rest, w, i, -, -, -, hexec⟩ := step_next_cases h
  · exact (hturn rest).applyEnv e
  · exact (hturn rest).exec hexec

/-- Settles O45: no memory is listed, and every register is as a reset leaves it. -/
theorem invariantHoldsAtReset : Obligations.InvariantHoldsAtReset := by
  refine ⟨rfl, fun n => ⟨?_, ?_⟩⟩
  · have hreg : State.reset.reg n = ⟨0, resetUnknown State.reset.impl⟩ := by simp [State.reset, State.reg]
    rw [hreg]
    exact resetUnknown_sound _ _
  · simp [State.reset]

end Sys2Proof.Machine

namespace Sys2Proof.Machine

/-! ### Steps, by whose turn is next (10_state.md R41; 20_memory.md R67) -/

/-- The PE's turn runs the instruction decoded from the word at the pc. -/
theorem runInstruction_of_decoded {s : State} {w : Word} {i : Instr} (hf : s.fetch = some w)
    (hd : decodeWord s.iset w = .ok i) : runInstruction s = exec i s := by
  simp only [runInstruction, hf, hd]

theorem step_of_no_turns {s : State} (h : s.turns = []) : step s = runInstruction s := by
  simp only [step, h]

theorem step_of_pe_turn {s : State} {rest : List Turn} (h : s.turns = .pe :: rest) :
    step s = runInstruction { s with turns := rest } := by
  simp only [step, h]

theorem step_of_env_turn {s : State} {e : EnvEvent} {rest : List Turn} (h : s.turns = .env e :: rest) :
    step s = .next (({ s with turns := rest } : State).applyEnv e) := by
  simp only [step, h]

/-- Taking the turn off the list changes nothing the fetch reads. -/
@[simp] theorem State.fetch_withTurns (s : State) (l : List Turn) :
    ({ s with turns := l } : State).fetch = s.fetch := rfl

/-- In either form of the PE's turn, the instruction it would execute now is the one decoded at the pc. -/
theorem State.currentInstr_of_decoded {s : State} {rest : List Turn} {w : Word} {i : Instr}
    (ht : s.turns = .pe :: rest ∨ (s.turns = [] ∧ rest = [])) (hf : s.fetch = some w)
    (hd : decodeWord s.iset w = .ok i) : s.currentInstr = some i := by
  rcases ht with ht | ⟨ht, -⟩ <;> simp only [State.currentInstr, ht, hf, hd] <;> rfl

/-- Settles O6: in either form of the PE's turn, the step is `runInstruction` and the fetch reads the same word. -/
theorem stepRunsTheDecodedInstruction : Obligations.StepRunsTheDecodedInstruction := by
  intro s w i hf hd
  constructor
  · intro ht
    rw [step_of_no_turns ht, runInstruction_of_decoded hf hd]
  · intro rest ht
    rw [step_of_pe_turn ht, runInstruction_of_decoded ((s.fetch_withTurns rest).trans hf) hd]

/-- Settles O9: the state each of the two turns leaves, field by field. -/
theorem quietEnvironmentTurnKeepsTheBank : Obligations.QuietEnvironmentTurnKeepsTheBank := by
  intro s rest
  constructor
  · intro p ht
    exact ⟨_, step_of_env_turn ht, ⟨rfl, rfl, rfl⟩, rfl, rfl, rfl, rfl, rfl, rfl, rfl, fun _ => rfl⟩
  · intro ht
    exact ⟨_, step_of_env_turn ht, rfl, rfl, fun n => by simp [State.applyEnv], rfl, rfl, rfl, rfl, rfl, rfl, rfl,
      fun _ => rfl⟩

/-! ### Reset (R36, R200 to R202) -/

/-- Settles O41: the reset turn fills the unknown masks with `resetUnknown`, Warm or not. -/
theorem resetLeavesTheBankUnknown : Obligations.ResetLeavesTheBankUnknown := by
  intro s kind p rest ht
  refine ⟨_, step_of_env_turn ht, fun n => ?_⟩
  simp only [State.applyEnv, State.withPE_unk, State.resetBank_unk, Fin.getElem_fin, Vector.getElem_replicate]
  rfl

/-- Settles O44: the implementation of `State.reset` holds no state in its RES0 bits. -/
theorem resetStateHasAnUnknownBank : Obligations.ResetStateHasAnUnknownBank := by
  intro n
  have hunk : State.reset.unk[n] = resetUnknown State.reset.impl := by simp [State.reset]
  have hstateless : State.reset.impl.res0Stateful = false := rfl
  constructor
  · rw [hunk, resetUnknown_eq_keepMask, keepMask, hstateless]
    rfl
  · simp [State.reset]

/-- The read of a register that is as a reset left it: a draw in every bit it holds, 0 in the rest. -/
theorem State.readValue_afterReset {s : State} {n : Fin 31} (hu : s.unk[n] = resetUnknown s.impl) (d : Word) :
    readValue s.impl (s.reg n) d = d &&& keepMask s.impl := by
  rw [State.reg, hu, resetUnknown_eq_keepMask, readValue_allUnknown]

/-- Settles O43: the access transfers, and its draw is masked by `keepMask`, the bits that are RW or hold state. -/
theorem readAfterResetIsDrawn : Obligations.ReadAfterResetIsDrawn := by
  intro i s hk ha hp hc hr hu
  have hb : s.behaviour i.kind i.reg = .inRange := State.behaviour_inRange hp (hk ▸ hc) hr
  refine ⟨(s.transfer i.kind i.reg i.rt).advance, by rw [exec_admitted ha, hb, State.perform], fun b hb => ?_⟩
  rw [hk, State.readX_advance, State.transfer, State.readX_writeX_same s ha.2, State.readValue_afterReset hu,
    BitVec.getLsbD_and, keepMask_getLsbD hb, Bool.and_comm, Bool.or_comm]

/-- Settles O58: with nothing replaced the current content governs, and every RW bit of it is UNKNOWN. -/
theorem filterAfterResetIsDrawn : Obligations.FilterAfterResetIsDrawn := by
  intro s o n hs hu
  have hunk : (s.reg n).unknown = keepMask s.impl := hu.trans (resetUnknown_eq_keepMask s.impl)
  rw [State.governingValue, State.governingReg_of_settled o hs]
  exact EvReg.resolve_and_of_unknown (by rw [hunk, rwMask_and_keepMask]) _

/-! ### What changes a register (R41, R100, R116) -/

/-- An instruction that changes register n is an `MCR` of it whose behaviour is the transfer. -/
theorem exec_next_reg_ne {i : Instr} {s t : State} {n : Fin 31} (h : exec i s = .next t) (hne : t.reg n ≠ s.reg n) :
    i.kind = .mcr ∧ i.reg = n ∧ i.Admitted ∧ s.behaviour i.kind i.reg = .inRange := by
  obtain ⟨ha, ⟨hb, rfl⟩ | ⟨-, rfl⟩ | ⟨-, rfl⟩⟩ := exec_next_cases h
  · cases hk : i.kind with
    | mrc => rw [hk] at hne; exact absurd rfl hne
    | mcr =>
      refine ⟨rfl, ?_, ha, hk ▸ hb⟩
      by_contra hn
      rw [hk, State.reg_advance, State.transfer] at hne
      exact hne (State.reg_setReg_other s (Ne.symm hn) _)
  · cases hk : i.kind <;> (rw [hk] at hne; exact absurd rfl hne)
  · exact absurd rfl hne

/-- Settles O47: the environment's turn leaves a register it does not touch, and an instruction changes a register only
by a transfer, which is in reach past every check. -/
theorem onlyAReachingWriteChangesARegister : Obligations.OnlyAReachingWriteChangesARegister := by
  intro s t n h hdiff
  have hne : t.reg n ≠ s.reg n := by
    intro heq
    rcases hdiff with hv | hu
    · exact hv (congrArg EvReg.value heq)
    · exact hu (congrArg EvReg.unknown heq)
  obtain ⟨e, rest, ht, rfl⟩ | ⟨rest, w, i, ht, hf, hd, hexec⟩ := step_next_cases h
  · obtain ⟨-, -, -, -, hframe⟩ := State.applyEnv_frame { s with turns := rest } e
    exact .inl ⟨e, rest, ht, by_contra fun htouch => hne (hframe n (Bool.eq_false_of_not_eq_true htouch))⟩
  · obtain ⟨hk, rfl, ha, hb⟩ := exec_next_reg_ne hexec hne
    obtain ⟨hp, hc, hr⟩ := State.inReach_of_behaviour hb
    exact .inr ⟨i, State.currentInstr_of_decoded ht hf hd, hk, rfl, ha, hp, hk ▸ hc, hr⟩

/-! ### The register of an unimplemented counter (R20, R109, R111) -/

/-- Every completed access ends in `advance`, which moves the pc and the count of draws alone (R121). -/
theorem State.nopTo_advance (s : State) : s.NopTo s.advance :=
  ⟨fun _ => rfl, ⟨rfl, rfl, rfl⟩, rfl, rfl, rfl, rfl, rfl, rfl, fun _ => rfl⟩

/-- RAZ/WI gives zero to a read and nothing to a write (R111). -/
theorem State.razWiTo_advance (s : State) (k : Kind) {t : BitVec 4} (ht : t ≠ 15#4) :
    s.RazWiTo (s.razWi k t).advance k t := by
  cases k with
  | mrc =>
    exact ⟨fun _ => State.readX_writeX_same s ht 0, nofun, fun _ hj => State.readX_writeX_other s hj 0,
      ⟨rfl, rfl, rfl⟩, rfl, rfl, rfl, rfl, rfl, rfl, fun _ => rfl⟩
  | mcr =>
    exact ⟨nofun, fun _ => rfl, fun _ _ => rfl, ⟨rfl, rfl, rfl⟩, rfl, rfl, rfl, rfl, rfl, rfl, fun _ => rfl⟩

/-- No access of an unimplemented counter's register transfers: it is out of reach in every context (R109). -/
theorem State.behaviour_ne_inRange_of_unimplemented {s : State} {n : Fin 31} (k : Kind)
    (hn : s.impl.numCounters.val ≤ n.val) : s.behaviour k n ≠ .inRange := by
  intro hb
  obtain ⟨-, -, hlt, -⟩ := State.inReach_of_behaviour hb
  omega

/-- Settles O33: of the behaviours of R100 stage 5, the transfer alone reads or changes the bank, and it is excluded. -/
theorem unimplementedCounterHasNoStorage : Obligations.UnimplementedCounterHasNoStorage := by
  intro i s ha hn
  rw [exec_admitted ha]
  cases hb : s.behaviour i.kind i.reg with
  | inRange => exact absurd hb (State.behaviour_ne_inRange_of_unimplemented i.kind hn)
  | razWi => exact .inr ⟨_, rfl, .inl (s.razWiTo_advance i.kind ha.2)⟩
  | nop => exact .inr ⟨_, rfl, .inr s.nopTo_advance⟩
  | raise r => exact .inl (s.takeException_fault r)

/-! ### The fields the counting rules read (R34, R141 to R143) -/

/-- A one-bit field is the bit at its position (R8, R21). -/
theorem field_eq_ofBool (v : Word) (b : Nat) : v.extractLsb' b 1 = BitVec.ofBool (v.getLsbD b) := by
  apply BitVec.eq_of_getLsbD_eq
  intro j hj
  obtain rfl : j = 0 := by omega
  simp

theorem ofBool_eq_zero_iff (b : Bool) : BitVec.ofBool b = 0#1 ↔ b = false := by cases b <;> decide

theorem ofBool_eq_one_iff (b : Bool) : BitVec.ofBool b = 1#1 ↔ b = true := by cases b <;> decide

theorem ofBool_eq_ofBool_iff (a b : Bool) : BitVec.ofBool a = BitVec.ofBool b ↔ a = b := by
  cases a <;> cases b <;> decide

/-- `AllowsEL0` in the bits of the register (R142). -/
theorem allowsEL0_iff (c : Impl) (v : Word) (secure : Bool) :
    allowsEL0 c v secure = true ↔
      if c.haveEL3 = true ∧ secure = false then v.getLsbD 28 = v.getLsbD 30 else v.getLsbD 30 = false := by
  simp only [allowsEL0, fieldNSU, fieldU, field_eq_ofBool, Bool.and_eq_true, Bool.not_eq_true']
  split <;> simp only [beq_iff_eq, ofBool_eq_ofBool_iff, ofBool_eq_zero_iff]

/-- `AllowsEL1` in the bits of the register (R141). -/
theorem allowsEL1_iff (c : Impl) (v : Word) (secure : Bool) :
    allowsEL1 c v secure = true ↔
      if c.haveEL3 = true ∧ secure = false then v.getLsbD 29 = v.getLsbD 31 else v.getLsbD 31 = false := by
  simp only [allowsEL1, fieldNSK, fieldP, field_eq_ofBool, Bool.and_eq_true, Bool.not_eq_true']
  split <;> simp only [beq_iff_eq, ofBool_eq_ofBool_iff, ofBool_eq_zero_iff]

/-- `AllowsEL2` in Non-secure state, in the bits of the register (R143). -/
theorem allowsEL2_nonSecure_iff {c : Impl} (h2 : c.haveEL2 = true) (o : Occurrence) (n : Fin 31) (v : Word) :
    allowsEL2 c false o n v = true ↔ v.getLsbD 27 = true := by
  simp only [allowsEL2, h2, Bool.not_false, Bool.and_self, if_true, fieldNSH, field_eq_ofBool, beq_iff_eq,
    ofBool_eq_one_iff]

/-- A supported number selects itself (R150). -/
theorem selectedEvent_of_supported {c : Impl} {v : Word} (h : EventRange.covers c.supportedEvents (evtNum c v) = true)
    (o : Occurrence) (n : Fin 31) : selectedEvent c o n v = some (evtNum c v) := by
  simp only [selectedEvent, eventCase, h, if_true]

/-- On the controlling PE, the selected supported event is counted as the filter says (R140, R146, R150). -/
theorem State.counted_iff_filterAllows {s : State} {o : Occurrence} {n : Fin 31} (ho : o.origin = .controllingPE)
    (he : o.event = evtNum s.impl (s.governingValue o n))
    (hsup : EventRange.covers s.impl.supportedEvents o.event = true) :
    s.counted o n = true ↔ filterAllows s.impl s.ctx o n (s.governingValue o n) = true := by
  have hsel : selectedEvent s.impl o n (s.governingValue o n) = some o.event := by
    rw [he] at hsup ⊢
    exact selectedEvent_of_supported hsup o n
  have horigin : originCounted s.impl (s.governingValue o n) o.origin = true := by rw [ho]; rfl
  rw [State.counted_iff]
  exact ⟨fun ⟨_, hf, _⟩ => hf, fun hf => ⟨horigin, hf, hsel⟩⟩

/-- Settles O60: at each Exception level, the filter of that level in the bits of the register. -/
theorem countingReadsTheCurrentContext : Obligations.CountingReadsTheCurrentContext := by
  intro s o n ho he hsup
  rw [State.counted_iff_filterAllows ho he hsup]
  refine ⟨fun hx => ?_, fun hx => ?_, fun hx h2 hsec => ?_⟩
  · rw [filterAllows_el0 ho hx, allowsEL0_iff]
  · rw [filterAllows_el1 ho hx, allowsEL1_iff]
  · rw [filterAllows_el2 ho hx, hsec, allowsEL2_nonSecure_iff h2]

/-! ### RES0 bits reach no rule (R34)

Each rule gives for a value what it gives for the value under `RWMASK`: it reads a field only where the field exists. -/

/-- A field all of whose bits are RW bits is the same under `RWMASK`. -/
theorem field_and_rwMask {c : Impl} {lo len : Nat} (v : Word)
    (h : ∀ i < len, (rwMask c).getLsbD (lo + i) = true) :
    (v &&& rwMask c).extractLsb' lo len = v.extractLsb' lo len := by
  apply BitVec.eq_of_getLsbD_eq
  intro i hi
  simp only [BitVec.getLsbD_extractLsb', BitVec.getLsbD_and, h i hi, Bool.and_true]

section
variable (c : Impl) (v : Word)

theorem fieldP_and_rwMask : fieldP (v &&& rwMask c) = fieldP v :=
  field_and_rwMask v fun _ hi => (rwMask_getLsbD_iff c (by omega)).2 (by omega)

theorem fieldU_and_rwMask : fieldU (v &&& rwMask c) = fieldU v :=
  field_and_rwMask v fun _ hi => (rwMask_getLsbD_iff c (by omega)).2 (by omega)

theorem fieldNSK_and_rwMask (h : c.haveEL3 = true) : fieldNSK (v &&& rwMask c) = fieldNSK v :=
  field_and_rwMask v fun _ hi => (rwMask_getLsbD_iff c (by omega)).2 (by simp only [h, and_true]; omega)

theorem fieldNSU_and_rwMask (h : c.haveEL3 = true) : fieldNSU (v &&& rwMask c) = fieldNSU v :=
  field_and_rwMask v fun _ hi => (rwMask_getLsbD_iff c (by omega)).2 (by simp only [h, and_true]; omega)

theorem fieldNSH_and_rwMask (h : c.haveEL2 = true) : fieldNSH (v &&& rwMask c) = fieldNSH v :=
  field_and_rwMask v fun _ hi => (rwMask_getLsbD_iff c (by omega)).2 (by simp only [h, and_true]; omega)

theorem fieldMT_and_rwMask (h : c.haveMTPMU = true) : fieldMT (v &&& rwMask c) = fieldMT v :=
  field_and_rwMask v fun _ hi => (rwMask_getLsbD_iff c (by omega)).2 (by simp only [h, and_true]; omega)

/-- The event number has RW bits alone, since `EVTMASK` lies within `RWMASK`. -/
theorem evtNum_and_rwMask : evtNum c (v &&& rwMask c) = evtNum c v := by
  rw [evtNum_eq_masked, evtNum_eq_masked, BitVec.and_assoc, BitVec.and_comm (rwMask c), evtMask_and_rwMask]

theorem allowsEL0_and_rwMask (secure : Bool) : allowsEL0 c (v &&& rwMask c) secure = allowsEL0 c v secure := by
  cases h : c.haveEL3
  · simp only [allowsEL0, fieldU_and_rwMask, h, Bool.false_and, Bool.false_eq_true, if_false]
  · simp only [allowsEL0, fieldU_and_rwMask, fieldNSU_and_rwMask c v h]

theorem allowsEL1_and_rwMask (secure : Bool) : allowsEL1 c (v &&& rwMask c) secure = allowsEL1 c v secure := by
  cases h : c.haveEL3
  · simp only [allowsEL1, fieldP_and_rwMask, h, Bool.false_and, Bool.false_eq_true, if_false]
  · simp only [allowsEL1, fieldP_and_rwMask, fieldNSK_and_rwMask c v h]

theorem allowsEL2_and_rwMask (secure : Bool) (o : Occurrence) (n : Fin 31) :
    allowsEL2 c secure o n (v &&& rwMask c) = allowsEL2 c secure o n v := by
  cases h : c.haveEL2
  · simp only [allowsEL2, h, Bool.false_and, Bool.false_eq_true, if_false, BitVec.and_assoc, BitVec.and_self]
  · simp only [allowsEL2, fieldNSH_and_rwMask c v h, BitVec.and_assoc, BitVec.and_self]

theorem allowsEL3_and_rwMask (o : Occurrence) (n : Fin 31) :
    allowsEL3 c o n (v &&& rwMask c) = allowsEL3 c o n v := by
  simp only [allowsEL3, BitVec.and_assoc, BitVec.and_self]

theorem filterAllows_and_rwMask (x : Ctx) (o : Occurrence) (n : Fin 31) :
    filterAllows c x o n (v &&& rwMask c) = filterAllows c x o n v := by
  cases ho : o.origin with
  | controllingPE =>
    cases hx : x.el with
    | el0 => rw [filterAllows_el0 ho hx, filterAllows_el0 ho hx, allowsEL0_and_rwMask]
    | el1 => rw [filterAllows_el1 ho hx, filterAllows_el1 ho hx, allowsEL1_and_rwMask]
    | el2 => rw [filterAllows_el2 ho hx, filterAllows_el2 ho hx, allowsEL2_and_rwMask]
    | el3 => rw [filterAllows_el3 ho hx, filterAllows_el3 ho hx, allowsEL3_and_rwMask]
  | otherPE upper => simp only [filterAllows, ho]

theorem selectedEvent_and_rwMask (o : Occurrence) (n : Fin 31) :
    selectedEvent c o n (v &&& rwMask c) = selectedEvent c o n v := by
  simp only [selectedEvent, evtNum_and_rwMask]

theorem originCounted_and_rwMask (g : Origin) : originCounted c (v &&& rwMask c) g = originCounted c v g := by
  cases g with
  | controllingPE => rfl
  | otherPE upper =>
    cases h : c.haveMTPMU
    · simp only [originCounted, h, Bool.false_and]
    · simp only [originCounted, fieldMT_and_rwMask c v h]

end

/-- Settles O57: each rule's answer is its answer for the RW bits alone. -/
theorem res0BitsReachNoRule : Obligations.Res0BitsReachNoRule := by
  intro c v v' h
  refine ⟨fun x o n => ⟨?_, ?_⟩, fun g => ?_, ?_⟩
  · rw [← filterAllows_and_rwMask, h, filterAllows_and_rwMask]
  · rw [← selectedEvent_and_rwMask, h, selectedEvent_and_rwMask]
  · rw [← originCounted_and_rwMask, h, originCounted_and_rwMask]
  · rw [← evtNum_and_rwMask, h, evtNum_and_rwMask]

end Sys2Proof.Machine

namespace Sys2Proof.Machine

/-! ### Runs (20_memory.md R67) -/

/-- A run of one step more starts with a step that gives a next state and goes on from it. -/
theorem core_run_succ_next {k : Nat} {s t : State} (h : Sys2Proof.core.run (k + 1) s = .next t) :
    ∃ u, step s = .next u ∧ Sys2Proof.core.run k u = .next t := by
  cases hs : step s with
  | next u => exact ⟨u, rfl, by simpa only [Host.Core.run, Sys2Proof.core, hs] using h⟩
  | fault f => simp only [Host.Core.run, Sys2Proof.core, hs, reduceCtorEq] at h
  | refused r => simp only [Host.Core.run, Sys2Proof.core, hs, reduceCtorEq] at h

theorem core_run_succ_of_step {k : Nat} {s u : State} (h : step s = .next u) :
    Sys2Proof.core.run (k + 1) s = Sys2Proof.core.run k u := by
  simp only [Host.Core.run, Sys2Proof.core, h]

/-! ### Turns to come (10_state.md R41, log 9) -/

@[simp] theorem State.transfer_turns (s : State) (k : Kind) (n : Fin 31) (x : BitVec 4) :
    (s.transfer k n x).turns = s.turns := by cases k <;> rfl

@[simp] theorem State.razWi_turns (s : State) (k : Kind) (x : BitVec 4) : (s.razWi k x).turns = s.turns := by
  cases k <;> rfl

/-- No instruction adds or takes a turn. -/
theorem exec_next_turns {i : Instr} {s t : State} (h : exec i s = .next t) : t.turns = s.turns := by
  obtain ⟨-, ⟨-, rfl⟩ | ⟨-, rfl⟩ | ⟨-, rfl⟩⟩ := exec_next_cases h
  · rw [State.advance_turns, State.transfer_turns]
  · rw [State.advance_turns, State.razWi_turns]
  · rw [State.advance_turns]

/-- The environment's turn at the head of a quiet list leaves register n, and the rest of the list is quiet. -/
theorem quietFor_env_cons_iff {n : Fin 31} {e : EnvEvent} {rest : List Turn} :
    quietFor n (.env e :: rest) = true ↔ e.touches n = false ∧ quietFor n rest = true := by
  simp only [quietFor, Bool.and_eq_true, Bool.not_eq_true']

/-- A step takes at most the head off the turns to come, so a quiet list stays quiet. -/
theorem step_keeps_quietFor {n : Fin 31} {s t : State} (hq : quietFor n s.turns = true) (h : step s = .next t) :
    quietFor n t.turns = true := by
  obtain ⟨e, rest, ht, rfl⟩ | ⟨rest, w, i, ht, -, -, hexec⟩ := step_next_cases h
  · obtain ⟨-, -, hturns, -⟩ := State.applyEnv_frame { s with turns := rest } e
    rw [ht, quietFor_env_cons_iff] at hq
    rw [hturns]
    exact hq.2
  · rw [exec_next_turns hexec]
    rcases ht with ht | ⟨-, rfl⟩
    · rwa [ht] at hq
    · rfl

/-! ### A register nothing writes (R41, R67, R204) -/

/-- A step whose turn leaves register n, and whose instruction is no `MCR` of it, keeps its content. -/
theorem step_keeps_reg {n : Fin 31} {s t : State} (hq : quietFor n s.turns = true)
    (hw : ∀ i, s.currentInstr = some i → ¬(i.kind = .mcr ∧ i.reg = n)) (h : step s = .next t) :
    t.pmevtyper[n] = s.pmevtyper[n] ∧ t.unk[n] = s.unk[n] := by
  by_contra hdiff
  obtain ⟨e, rest, ht, htouch⟩ | ⟨i, hi, hk, hr, -⟩ :=
    onlyAReachingWriteChangesARegister s t n h (not_and_or.1 hdiff)
  · rw [ht, quietFor_env_cons_iff, htouch] at hq
    exact Bool.noConfusion hq.1
  · exact hw i hi ⟨hk, hr⟩

/-- Settles O40, by induction on the number of steps: the first step keeps the register and the quiet of the turns to
come, and the state it leaves has a shorter run under the same conditions. -/
theorem registerKeepsItsContent : Obligations.RegisterKeepsItsContent := by
  intro n k
  induction k with
  | zero =>
    intro s t _ _ hrun
    cases hrun
    exact ⟨rfl, rfl⟩
  | succ k ih =>
    intro s t hq hw hrun
    obtain ⟨u, hstep, hrest⟩ := core_run_succ_next hrun
    obtain ⟨hvalue, hunk⟩ := step_keeps_reg hq (fun i => hw 0 s i k.succ_pos rfl) hstep
    have hw' : ∀ (j : Nat) (v : State) (i : Instr), j < k → Sys2Proof.core.run j u = .next v →
        v.currentInstr = some i → ¬(i.kind = .mcr ∧ i.reg = n) := fun j v i hj hv =>
      hw (j + 1) v i (Nat.succ_lt_succ hj) ((core_run_succ_of_step hstep).trans hv)
    obtain ⟨hvalue', hunk'⟩ := ih u t (step_keeps_quietFor hq hstep) hw' hrest
    exact ⟨hvalue'.trans hvalue, hunk'.trans hunk⟩

/-! ### Two states that agree on one register of the bank (R65, R115, R116, R182) -/

/-- The two states agree on all an access of register n reads: register n, implementation, context, general registers
and the count of draws; and on the pc, which it moves. The other registers of the bank are free. -/
structure State.AgreesAt (n : Fin 31) (s t : State) : Prop where
  reg : s.reg n = t.reg n
  impl : s.impl = t.impl
  ctx : s.ctx = t.ctx
  gpr : s.gpr = t.gpr
  pc : s.pc = t.pc
  draws : s.draws = t.draws

/-- Two outcomes of an access of register n agree: the same stop, or next states that agree at n. -/
inductive OutcomesAgreeAt (n : Fin 31) : Host.Outcome State Fault Refusal → Host.Outcome State Fault Refusal → Prop
  | next {s t : State} (h : s.AgreesAt n t) : OutcomesAgreeAt n (.next s) (.next t)
  | fault (f : Fault) : OutcomesAgreeAt n (.fault f) (.fault f)
  | refused (r : Refusal) : OutcomesAgreeAt n (.refused r) (.refused r)

section
variable {n : Fin 31} {a b : Host.Outcome State Fault Refusal}

theorem OutcomesAgreeAt.fault_iff (h : OutcomesAgreeAt n a b) {f : Fault} : a = .fault f ↔ b = .fault f := by
  cases h with
  | next => exact ⟨nofun, nofun⟩
  | fault | refused => exact Iff.rfl

theorem OutcomesAgreeAt.refused_iff (h : OutcomesAgreeAt n a b) {r : Refusal} : a = .refused r ↔ b = .refused r := by
  cases h with
  | next => exact ⟨nofun, nofun⟩
  | fault | refused => exact Iff.rfl

theorem OutcomesAgreeAt.exists_next (h : OutcomesAgreeAt n a b) {s : State} (hs : a = .next s) :
    ∃ t, b = .next t ∧ s.AgreesAt n t := by
  cases h with
  | next hst => cases hs; exact ⟨_, rfl, hst⟩
  | fault | refused => cases hs

end

section
variable {n : Fin 31} {s t : State}

theorem State.AgreesAt.readX_eq (h : s.AgreesAt n t) (x : BitVec 4) : s.readX x = t.readX x := by
  rw [State.readX, State.readX, h.gpr]

/-- The outcome is chosen from implementation, context and count of draws. -/
theorem State.AgreesAt.behaviour_eq (h : s.AgreesAt n t) (k : Kind) : s.behaviour k n = t.behaviour k n := by
  rw [State.behaviour, State.behaviour, h.impl, h.ctx, h.draws]

/-- How an exception is taken is read off implementation and context. -/
theorem State.AgreesAt.takeException_eq (h : s.AgreesAt n t) (r : Raise) : s.takeException r = t.takeException r := by
  cases r with
  | trapEL2Range => rw [State.takeException, State.takeException, h.impl, h.ctx]
  | _ => rfl

theorem State.AgreesAt.writeX (h : s.AgreesAt n t) (x : BitVec 4) (v : Word) :
    (s.writeX x v).AgreesAt n (t.writeX x v) :=
  { h with gpr := by rw [State.writeX_gpr, State.writeX_gpr, h.gpr] }

theorem State.AgreesAt.setReg (h : s.AgreesAt n t) (r : EvReg) : (s.setReg n r).AgreesAt n (t.setReg n r) :=
  { h with reg := by rw [State.reg_setReg_same, State.reg_setReg_same] }

theorem State.AgreesAt.advance (h : s.AgreesAt n t) : s.advance.AgreesAt n t.advance :=
  { h with
    pc := by rw [State.advance_pc, State.advance_pc, h.pc]
    draws := by rw [State.advance_draws, State.advance_draws, h.draws] }

/-- A read transfers the value of register n, a write that of a general register: both are the same in both states. -/
theorem State.AgreesAt.transfer (h : s.AgreesAt n t) (k : Kind) (x : BitVec 4) :
    (s.transfer k n x).AgreesAt n (t.transfer k n x) := by
  cases k with
  | mrc =>
    rw [State.transfer, State.transfer, h.reg, h.impl, h.draws]
    exact h.writeX x _
  | mcr =>
    rw [State.transfer, State.transfer, h.impl, h.readX_eq x]
    exact h.setReg _

theorem State.AgreesAt.razWi (h : s.AgreesAt n t) (k : Kind) (x : BitVec 4) :
    (s.razWi k x).AgreesAt n (t.razWi k x) := by
  cases k with
  | mrc => exact h.writeX x 0
  | mcr => exact h

theorem State.AgreesAt.perform (h : s.AgreesAt n t) (k : Kind) (x : BitVec 4) (b : Behaviour) :
    OutcomesAgreeAt n (s.perform k n x b) (t.perform k n x b) := by
  cases b with
  | inRange => exact .next (h.transfer k x).advance
  | razWi => exact .next (h.razWi k x).advance
  | nop => exact .next h.advance
  | raise r =>
    obtain ⟨f, hf⟩ := s.takeException_fault r
    rw [State.perform, State.perform, ← h.takeException_eq r, hf]
    exact .fault f

end

/-- The form is admitted or refused whatever the state; an admitted form performs the one behaviour both states give. -/
theorem State.AgreesAt.exec {i : Instr} {s t : State} (h : s.AgreesAt i.reg t) :
    OutcomesAgreeAt i.reg (exec i s) (exec i t) := by
  rw [exec_eq_accessRegister, exec_eq_accessRegister, accessRegister, accessRegister, h.behaviour_eq i.kind]
  split
  · split
    · exact h.perform i.kind i.rt _
    · exact .refused _
  · exact .refused _

/-- Settles O49: the two outcomes agree, so they are the same stop or states that agree at register n. -/
theorem otherRegistersDoNotMatter : Obligations.OtherRegistersDoNotMatter := by
  intro i s t hvalue hunk himpl hctx hgpr hpc hdraws
  have hreg : s.reg i.reg = t.reg i.reg := by rw [State.reg, State.reg, hvalue, hunk]
  have hagree : s.AgreesAt i.reg t := ⟨hreg, himpl, hctx, hgpr, hpc, hdraws⟩
  have houtcomes := hagree.exec
  refine ⟨fun _ => houtcomes.fault_iff, fun _ => houtcomes.refused_iff, fun s' hs' => ?_⟩
  obtain ⟨t', ht', hnext⟩ := houtcomes.exists_next hs'
  exact ⟨t', ht', hnext.gpr, hnext.pc, hnext.draws, congrArg EvReg.value hnext.reg, congrArg EvReg.unknown hnext.reg⟩

end Sys2Proof.Machine

namespace Sys2Proof

/-! ### Encoding: the word of an instruction, and a word that selects the bank as the word of its fields (R81, R82, R85) -/

/-- One layout serves both instruction sets: a T32 form's condition field stands for its fixed top bits (R86). -/
theorem encode_eq_encoded (i : Instr) : encode i = encodeHigh i.cond i.kind ++ encodeLow i.reg i.rt := by
  cases h : i.iset with
  | a32 =>
    have hset : i.fields.iset = .a32 := h
    simp only [encode, encodeFields, hset]
    rfl
  | t32 =>
    have hset : i.fields.iset = .t32 := h
    rw [Instr.cond_of_t32 h]
    simp only [encode, encodeFields, hset]
    rfl

/-- The fixed fields of the encoding table, one by one (R81). -/
theorem wordSelectsBank_iff {w : Word} :
    wordSelectsBank w = true ↔ wordFixed w = 0b1110#4 ∧ wordOpc1 w = 0b000#3 ∧ wordCRn w = 0b1110#4 ∧
      wordCoproc w = 0b1111#4 ∧ wordBit4 w = 0b1#1 ∧ (wordCRm w).extractLsb' 2 2 = 0b11#2 := by
  simp only [wordSelectsBank, Bool.and_eq_true, beq_iff_eq, and_assoc]

@[simp] theorem kindL_wordKind (w : Word) : kindL (wordKind w) = wordL w := by
  rcases BitVec.eq_zero_or_eq_one (wordL w) with h | h <;> simp [wordKind, kindL, h]

/-- `opc2` is the low part of the index (R82). -/
theorem opc2Of_wordIndex {w : Word} (hn : (wordIndex w).toNat < 31) : opc2Of ⟨(wordIndex w).toNat, hn⟩ = wordOpc2 w := by
  simp only [opc2Of, BitVec.ofNat_toNat, BitVec.setWidth_eq]
  exact BitVec.extractLsb'_append_eq_right

/-- `CRm` is `0b11` and the high part of the index (R81, R82). -/
theorem crmOf_wordIndex {w : Word} (hn : (wordIndex w).toNat < 31) (hc : (wordCRm w).extractLsb' 2 2 = 0b11#2) :
    crmOf ⟨(wordIndex w).toNat, hn⟩ = wordCRm w := by
  have hhigh : (wordIndex w).extractLsb' 3 2 = (wordCRm w).extractLsb' 0 2 := BitVec.extractLsb'_append_eq_left
  rw [wordCRm_eq w, hc, ← hhigh]
  simp only [crmOf, BitVec.ofNat_toNat, BitVec.setWidth_eq]

/-- A word that selects a register of the bank is the encoding of its own fields. -/
theorem word_eq_encoded {w : Word} (hs : wordSelectsBank w = true) (hn : (wordIndex w).toNat < 31) :
    w = encodeHigh (wordTop w) (wordKind w) ++ encodeLow ⟨(wordIndex w).toNat, hn⟩ (wordRt w) := by
  obtain ⟨hfixed, hopc1, hcrn, hcoproc, hbit4, hcrm⟩ := wordSelectsBank_iff.1 hs
  rw [encodeHigh, encodeLow, kindL_wordKind, opc2Of_wordIndex hn, crmOf_wordIndex hn hcrm,
    ← hfixed, ← hopc1, ← hcoproc, ← hbit4]
  have hw := word_eq_fields w
  rw [hcrn, ← hfixed] at hw
  exact hw

/-! ### When a word is decoded, and when it is index 31 (R82, R84, R87) -/

/-- The converse of `decodeWord_ok`. -/
theorem decodeWord_of_fields {iset : InstrSet} {w : Word} {i : Instr} (ha : iset = .a32 → wordTop w ≠ 0b1111#4)
    (ht : iset = .t32 → wordTop w = 0b1110#4) (hs : wordSelectsBank w = true) (hn : (wordIndex w).toNat < 31)
    (hf : i.fields = ⟨iset, wordKind w, ⟨(wordIndex w).toNat, hn⟩, wordTop w, wordRt w⟩) :
    decodeWord iset w = .ok i := by
  have hrow := rowOfFields_fields i
  rw [hf] at hrow
  rw [decodeWord, if_neg (fun h => ha h.1 h.2), if_neg (fun h => h.2 (ht h.1)), if_pos hs, dif_pos hn]
  simp only [hrow]

/-- A word whose fixed fields select the bank and whose index is 31 is the slot of R84. -/
theorem decodeWord_slot31 {iset : InstrSet} {w : Word} (ha : iset = .a32 → wordTop w ≠ 0b1111#4)
    (ht : iset = .t32 → wordTop w = 0b1110#4) (hs : wordSelectsBank w = true) (hn : (wordIndex w).toNat = 31) :
    decodeWord iset w = .error .slot31 := by
  rw [decodeWord, if_neg (fun h => ha h.1 h.2), if_neg (fun h => h.2 (ht h.1)), if_pos hs,
    dif_neg (by rw [hn]; exact lt_irrefl 31)]

/-- Settles O1: every field the decoder tests or reads from an encoded word is the one the encoder wrote. -/
theorem decodeOfEncodeGivesItBack : Obligations.DecodeOfEncodeGivesItBack := by
  intro i hwf
  have hn := wordIndex_encoded i.cond i.rt i.kind i.reg
  rw [encode_eq_encoded]
  refine decodeWord_of_fields ?_ ?_ (wordSelectsBank_encoded ..) (hn ▸ i.reg.isLt) ?_
  · intro _
    rw [wordTop_encoded]
    exact hwf
  · intro ht
    rw [wordTop_encoded]
    exact Instr.cond_of_t32 ht
  · simp only [hn, wordTop_encoded, wordKind_encoded, wordRt_encoded]
    rfl

/-- Settles O2: the instruction has the fields of the word, and the word is the encoding of its fields. -/
theorem encodeOfDecodedIsTheWord : Obligations.EncodeOfDecodedIsTheWord := by
  intro iset w i h
  obtain ⟨ha, ht, hs, hn, hf⟩ := decodeWord_ok h
  have hiset : i.iset = iset := congrArg Fields.iset hf
  have hcond : i.cond = wordTop w := congrArg Fields.cond hf
  refine ⟨?_, ?_, hiset⟩
  · rw [encode_eq_encoded, Instr.cond, Instr.kind, Instr.reg, Instr.rt, hf]
    exact (word_eq_encoded hs hn).symm
  · rw [Instr.WellFormed, hcond]
    cases iset with
    | a32 => exact ha rfl
    | t32 => rw [ht rfl]; decide

/-! ### Masks (R85, R86): a field under a mask's ones is fixed by the masked word -/

/-- Two words equal under a mask have every field in common that the mask covers. -/
theorem extractLsb'_eq_of_and_eq {w v m : Word} (h : w &&& m = v &&& m) {lo len : Nat}
    (hm : m.extractLsb' lo len = BitVec.allOnes len) : w.extractLsb' lo len = v.extractLsb' lo len := by
  have hfield := congrArg (BitVec.extractLsb' lo len) h
  rwa [BitVec.extractLsb'_and, BitVec.extractLsb'_and, hm, BitVec.and_allOnes, BitVec.and_allOnes] at hfield

/-- Words equal under a mask are equal under each part of it. -/
theorem and_eq_and_of_subset {w v m m' : Word} (h : w &&& m = v &&& m) (hm : m &&& m' = m') :
    w &&& m' = v &&& m' := by
  rw [← hm, ← BitVec.and_assoc, ← BitVec.and_assoc, h]

/-- The mask of the fields the table fixes and of the index, without `L` (R81, R84). -/
theorem selection_eq_of_and_eq {w v : Word} (h : w &&& 0x0FEF0FFF#32 = v &&& 0x0FEF0FFF#32) :
    wordSelectsBank w = wordSelectsBank v ∧ wordIndex w = wordIndex v := by
  have hfixed : wordFixed w = wordFixed v := extractLsb'_eq_of_and_eq h (by decide)
  have hopc1 : wordOpc1 w = wordOpc1 v := extractLsb'_eq_of_and_eq h (by decide)
  have hcrn : wordCRn w = wordCRn v := extractLsb'_eq_of_and_eq h (by decide)
  have hcoproc : wordCoproc w = wordCoproc v := extractLsb'_eq_of_and_eq h (by decide)
  have hopc2 : wordOpc2 w = wordOpc2 v := extractLsb'_eq_of_and_eq h (by decide)
  have hbit4 : wordBit4 w = wordBit4 v := extractLsb'_eq_of_and_eq h (by decide)
  have hcrm : wordCRm w = wordCRm v := extractLsb'_eq_of_and_eq h (by decide)
  exact ⟨by rw [wordSelectsBank, wordSelectsBank, hfixed, hopc1, hcrn, hcoproc, hbit4, hcrm],
    by rw [wordIndex, wordIndex, hcrm, hopc2]⟩

theorem wordKind_eq_of_and_eq {w v : Word} (h : w &&& 0x0FFF0FFF#32 = v &&& 0x0FFF0FFF#32) :
    wordKind w = wordKind v := by
  have hL : wordL w = wordL v := extractLsb'_eq_of_and_eq h (by decide)
  rw [wordKind, wordKind, hL]

/-- Masked to the top four bits, a word is `cond` above zeros (R85). -/
theorem and_topMask (w : Word) : w &&& 0xF0000000#32 = wordTop w ++ 0#28 := by
  have hsplit : w = wordTop w ++ w.extractLsb' 0 28 :=
    (BitVec.extractLsb'_append_extractLsb' (w := 4) (len := 28) (x := w)).symm
  calc w &&& 0xF0000000#32
      = (wordTop w ++ w.extractLsb' 0 28) &&& (BitVec.allOnes 4 ++ 0#28) := congrArg (· &&& 0xF0000000#32) hsplit
    _ = wordTop w ++ 0#28 := by rw [BitVec.and_append, BitVec.and_allOnes, BitVec.and_zero]

/-- The top four bits have a value exactly when the word masked to them has it (R85, R86). -/
theorem wordTop_eq_iff {w : Word} {t : BitVec 4} : wordTop w = t ↔ w &&& 0xF0000000#32 = t ++ 0#28 := by
  rw [and_topMask, BitVec.append_left_inj]

/-- Settles O5: under the mask the word has the fixed fields and the index of the slot's own word. -/
theorem indexThirtyOneIsNotInThisSpec : Obligations.IndexThirtyOneIsNotInThisSpec := by
  intro w hw
  obtain ⟨hs, hn⟩ := selection_eq_of_and_eq (v := 0x0E0E0FFF#32) hw
  have hindex : (wordIndex w).toNat = 31 := by rw [hn]; decide
  have hselects : wordSelectsBank w = true := by rw [hs]; decide
  refine ⟨fun htop => ?_, fun htop => ?_⟩
  · exact decodeWord_slot31 (fun _ h => htop (wordTop_eq_iff.1 h)) nofun hselects hindex
  · exact decodeWord_slot31 nofun (fun _ => wordTop_eq_iff.2 htop) hselects hindex

/-! ### The rows by mask and match (R85, R86) -/

/-- The match value of the row of kind and n, with the top four bits 0 (R85). -/
def rowMatch (k : Kind) (n : Fin 31) : Word :=
  (if k = .mrc then 0x0E1E0F10#32 else 0x0E0E0F10#32) |||
    BitVec.ofNat 32 (n.val % 8 * 32) ||| 0xC#32 ||| BitVec.ofNat 32 (n.val / 8)

/-- The match value is the row's word with `cond` and `Rt` 0. -/
theorem encoded_zero_eq_rowMatch (k : Kind) (n : Fin 31) : encodeHigh 0 k ++ encodeLow n 0 = rowMatch k n := by
  revert n
  cases k <;> decide

/-- The mask of a halfword clears its first field, `cond` in `hw1` and `Rt` in `hw2`, and nothing else. -/
theorem halfword_and_mask (t a d : BitVec 4) (b : BitVec 3) (c : Bit) :
    (t ++ a ++ b ++ c ++ d) &&& 0x0FFF#16 = 0#4 ++ a ++ b ++ c ++ d := by
  have h : (t ++ a ++ b ++ c ++ d) &&&
      (0#4 ++ BitVec.allOnes 4 ++ BitVec.allOnes 3 ++ BitVec.allOnes 1 ++ BitVec.allOnes 4) =
        0#4 ++ a ++ b ++ c ++ d := by
    simp only [BitVec.and_append, BitVec.and_allOnes, BitVec.and_zero]
  exact h

/-- The mask of R85 leaves the match value of an encoded word, whatever its `cond` and `Rt`. -/
theorem encoded_and_mask (top rt : BitVec 4) (k : Kind) (n : Fin 31) :
    (encodeHigh top k ++ encodeLow n rt) &&& 0x0FFF0FFF#32 = rowMatch k n := by
  have hhigh : encodeHigh top k &&& 0x0FFF#16 = encodeHigh 0 k := halfword_and_mask ..
  have hlow : encodeLow n rt &&& 0x0FFF#16 = encodeLow n 0 := halfword_and_mask ..
  rw [show 0x0FFF0FFF#32 = 0x0FFF#16 ++ 0x0FFF#16 from rfl, BitVec.and_append, hhigh, hlow,
    encoded_zero_eq_rowMatch]

/-- A word selects the row of kind and n exactly when it matches under the mask of R85. -/
theorem selects_row_iff {w : Word} {k : Kind} {n : Fin 31} :
    (wordSelectsBank w = true ∧ wordKind w = k ∧ (wordIndex w).toNat = n.val) ↔
      w &&& 0x0FFF0FFF#32 = rowMatch k n := by
  constructor
  · rintro ⟨hs, rfl, hn⟩
    have hlt : (wordIndex w).toNat < 31 := hn ▸ n.isLt
    have hreg : ⟨(wordIndex w).toNat, hlt⟩ = n := Fin.ext hn
    have hw := word_eq_encoded hs hlt
    rw [hreg] at hw
    exact (congrArg (· &&& 0x0FFF0FFF#32) hw).trans (encoded_and_mask ..)
  · intro h
    have hv := h.trans (encoded_and_mask 0 0 k n).symm
    obtain ⟨hs, hn⟩ := selection_eq_of_and_eq (and_eq_and_of_subset hv (by decide))
    rw [hs, hn, wordKind_eq_of_and_eq hv]
    exact ⟨wordSelectsBank_encoded .., wordKind_encoded .., wordIndex_encoded ..⟩

/-- A word decodes to an instruction of a kind and register exactly when its top bits are admitted and it selects
their row. -/
theorem exists_decodeWord_iff {iset : InstrSet} {w : Word} {k : Kind} {n : Fin 31} :
    (∃ i, decodeWord iset w = .ok i ∧ i.kind = k ∧ i.reg = n) ↔
      (iset = .a32 → wordTop w ≠ 0b1111#4) ∧ (iset = .t32 → wordTop w = 0b1110#4) ∧
        w &&& 0x0FFF0FFF#32 = rowMatch k n := by
  rw [← selects_row_iff]
  constructor
  · rintro ⟨i, hd, rfl, rfl⟩
    obtain ⟨ha, ht, hs, hn, hf⟩ := decodeWord_ok hd
    rw [Instr.kind, Instr.reg, hf]
    exact ⟨ha, ht, hs, rfl, rfl⟩
  · rintro ⟨ha, ht, hs, hk, hn⟩
    have hlt : (wordIndex w).toNat < 31 := hn ▸ n.isLt
    obtain ⟨i, hi⟩ := rowOfFields_isSome ⟨iset, wordKind w, ⟨(wordIndex w).toNat, hlt⟩, wordTop w, wordRt w⟩
    have hf := fields_of_rowOfFields hi ht
    refine ⟨i, decodeWord_of_fields ha ht hs hlt hf, ?_, ?_⟩
    · rw [Instr.kind, hf, hk]
    · rw [Instr.reg, hf]
      exact Fin.ext hn

/-- A match under two masks with no bit in common is a match under each. -/
theorem and_or_eq_or_iff {w m m' a b : Word} (ha : a &&& m = a) (hb : b &&& m' = b) (hd : m &&& m' = 0#32) :
    w &&& (m ||| m') = a ||| b ↔ w &&& m = a ∧ w &&& m' = b := by
  have hd' : m' &&& m = 0#32 := (BitVec.and_comm ..).trans hd
  have ham' : a &&& m' = 0#32 := by rw [← ha, BitVec.and_assoc, hd, BitVec.and_zero]
  have hbm : b &&& m = 0#32 := by rw [← hb, BitVec.and_assoc, hd', BitVec.and_zero]
  constructor
  · intro h
    have hm := congrArg (· &&& m) h
    have hm' := congrArg (· &&& m') h
    simp only [BitVec.and_assoc, BitVec.and_or_distrib_right, BitVec.and_self, hd, hd', ha, hb, ham', hbm,
      BitVec.or_zero, BitVec.zero_or] at hm hm'
    exact ⟨hm, hm'⟩
  · rintro ⟨rfl, rfl⟩
    exact BitVec.and_or_distrib_left

/-- The T32 mask and match value are those of A32 with the top four bits added (R86). -/
theorem and_t32Mask_eq_iff {w : Word} {k : Kind} {n : Fin 31} :
    w &&& 0xFFFF0FFF#32 = rowMatch k n ||| 0xE0000000#32 ↔
      w &&& 0x0FFF0FFF#32 = rowMatch k n ∧ w &&& 0xF0000000#32 = 0xE0000000#32 := by
  have hmatch : rowMatch k n &&& 0x0FFF0FFF#32 = rowMatch k n := by
    rw [← encoded_and_mask 0 0 k n, BitVec.and_assoc, BitVec.and_self]
  have htop : 0xE0000000#32 &&& 0xF0000000#32 = 0xE0000000#32 := by decide
  have hdisjoint : 0x0FFF0FFF#32 &&& 0xF0000000#32 = 0#32 := by decide
  exact and_or_eq_or_iff hmatch htop hdisjoint

/-- Settles O4: in each instruction set, the row's mask and match and the admitted top bits. -/
theorem rowsAreSelectedByMaskAndMatch : Obligations.RowsAreSelectedByMaskAndMatch := by
  intro w k n fixed
  have hfixed : fixed = rowMatch k n := rfl
  rw [hfixed, exists_decodeWord_iff, exists_decodeWord_iff, and_t32Mask_eq_iff]
  constructor
  · rw [Ne, wordTop_eq_iff]
    exact ⟨fun ⟨htop, _, hrow⟩ => ⟨hrow, htop rfl⟩, fun ⟨hrow, htop⟩ => ⟨fun _ => htop, nofun, hrow⟩⟩
  · rw [wordTop_eq_iff]
    exact ⟨fun ⟨_, htop, hrow⟩ => ⟨hrow, htop rfl⟩, fun ⟨hrow, htop⟩ => ⟨nofun, fun _ => htop, hrow⟩⟩

theorem decodeWord_of_encode_eq {i : Instr} {w : Word} (h : encode i = w) (hwf : i.WellFormed) :
    decodeWord i.iset w = .ok i := by
  rw [← h]
  exact decodeOfEncodeGivesItBack i hwf

/-- Settles O3: each of the four words is the encoding of its instruction, so O1 decodes it. -/
theorem wordsOfTheSpecDecode : Obligations.WordsOfTheSpecDecode :=
  ⟨decodeWord_of_encode_eq (i := .a32MrcPmevtyper12 14#4 1#4) (by decide) (by decide),
    decodeWord_of_encode_eq (i := .a32McrPmevtyper30 14#4 2#4) (by decide) (by decide),
    decodeWord_of_encode_eq (i := .t32MrcPmevtyper30 5#4) (by decide) (by decide),
    decodeWord_of_encode_eq (i := .t32McrPmevtyper1 0#4) (by decide) (by decide)⟩

end Sys2Proof

namespace Sys2Proof.Machine

/-! ### Steps that run or refuse a word (R5, R84, R87; log 10) -/

theorem runInstruction_of_undecoded {s : State} {w : Word} {e : DecodeError} (hf : s.fetch = some w)
    (hd : decodeWord s.iset w = .error e) : runInstruction s = .refused (.notInThisSpec e) := by
  simp only [runInstruction, hf, hd]

/-- Settles O7: in either form of the PE's turn, the step is `runInstruction` and the fetch reads the same word. -/
theorem undecodedWordIsRefused : Obligations.UndecodedWordIsRefused := by
  intro s w e hf hd henv
  cases ht : s.turns with
  | nil => rw [step_of_no_turns ht, runInstruction_of_undecoded hf hd]
  | cons turn rest =>
    cases turn with
    | pe => rw [step_of_pe_turn ht, runInstruction_of_undecoded ((s.fetch_withTurns rest).trans hf) hd]
    | env ev => exact absurd ht (henv ev rest)

@[simp] theorem State.withFetchWord_iset (s : State) (nbits w : Nat) : (s.withFetchWord nbits w).iset = s.iset := rfl

theorem State.withFetchWord_turns_nil {s : State} (h : s.turns = []) (nbits w : Nat) :
    (s.withFetchWord nbits w).turns = [] := by
  simp only [State.withFetchWord, h, fromNextPETurn]

/-- Settles O8: the fetch reads the stored word back, and it decodes to the instruction (O1). -/
theorem storedWordIsRunNext : Obligations.StoredWordIsRunNext := by
  intro i s hwf hiset hturns
  have hword : BitVec.ofNat 32 ((encode i).toNat % 2 ^ 32) = encode i := by
    rw [Nat.mod_eq_of_lt (encode i).isLt, BitVec.ofNat_toNat, BitVec.setWidth_eq]
  have hfetch := s.fetch_withFetchWord 32 (encode i).toNat
  rw [hword] at hfetch
  have hdecode := decodeOfEncodeGivesItBack i hwf
  rw [hiset] at hdecode
  rw [step_of_no_turns (State.withFetchWord_turns_nil hturns _ _), runInstruction_of_decoded hfetch hdecode]

/-- Settles O17: the meaning is the shared access on kind, register, condition and `Rt`. -/
theorem sameMeaningInBothInstructionSets : Obligations.SameMeaningInBothInstructionSets := by
  intro i j s hkind hreg hcond hrt
  rw [exec_eq_accessRegister, exec_eq_accessRegister, hkind, hreg, hcond, hrt]

end Sys2Proof.Machine

namespace Sys2Proof.Machine

/-! ### The data of an access (R115, R116; R150 to R154) -/

/-- Settles O12: the law of `readValue`. -/
theorem valueAReadReturns : Obligations.ValueAReadReturns :=
  fun c r drawn _ hb => readValue_getLsbD c r drawn hb

/-- The numbers that read back: the supported ones and those of the two known ranges (R150 to R154). -/
theorem evtReadbackUnknown_eq (c : Impl) (e : EventNumber) :
    evtReadbackUnknown c e =
      if EventRange.covers c.supportedEvents e then false
      else if e.toNat ≤ 0x003F then false
      else if c.havePMUv3p1 = true ∧ 0x4000 ≤ e.toNat ∧ e.toNat ≤ 0x403F then false
      else true := by
  have hle : ∀ a b : EventNumber, a ≤ b ↔ a.toNat ≤ b.toNat := fun _ _ => Iff.rfl
  simp only [evtReadbackUnknown, eventCase, hle, Bool.and_eq_true, decide_eq_true_eq, and_assoc, BitVec.toNat_ofNat,
    Nat.reducePow, Nat.reduceMod]
  split_ifs <;> rfl

/-- The number under `EVTMASK` fits the sixteen bits of an event number (R33, R149). -/
theorem toNat_evtNum (c : Impl) (v : Word) : (evtNum c v).toNat = (v &&& evtMask c).toNat := by
  have hle : (v &&& evtMask c).toNat ≤ (evtMask c).toNat := by
    rw [BitVec.toNat_and]; exact Nat.and_le_right
  have hmask : (evtMask c).toNat ≤ 0xFFFF := by cases h : c.havePMUv3p1 <;> simp [evtMask, h]
  rw [evtNum_eq_masked, BitVec.toNat_ofNat]
  exact Nat.mod_eq_of_lt (by omega)

/-- Settles O13: the classes that read back leave nothing UNKNOWN, the rest all of evtCount. -/
theorem valueAWriteStores : Obligations.ValueAWriteStores := by
  intro c v
  refine ⟨rfl, ?_⟩
  simp only [writtenReg, writtenUnknown, evtReadbackUnknown_eq, toNat_evtNum]
  rw [evtNum_eq_masked]
  split_ifs <;> rfl

/-! ### The forms the spec refuses, and presence (R101, R119, R120) -/

/-- Settles O11: the condition is tested first. -/
theorem conditionalFormIsRefused : Obligations.ConditionalFormIsRefused := by
  intro i s hc
  rw [exec_eq_accessRegister, accessRegister, if_neg (by simpa [conditionAdmitted] using hc)]

/-- Settles O10: an unconditional form is refused for its `Rt`, a conditional one for its condition (O11). -/
theorem rtFifteenIsRefused : Obligations.RtFifteenIsRefused := by
  intro i s hrt
  by_cases hc : i.cond = condAlways
  · rw [if_pos hc, exec_eq_accessRegister, accessRegister, if_pos (by simpa [conditionAdmitted] using hc),
      if_neg (by simpa [registerAdmitted] using hrt)]
  · rw [if_neg hc, conditionalFormIsRefused i s hc]

/-- Settles O18: UNDEFINED is the one outcome admitted. -/
theorem absentPmuIsUndefined : Obligations.AbsentPmuIsUndefined := by
  intro i s ha hp
  have hb : s.behaviour i.kind i.reg = .raise .undefined :=
    State.behaviour_of_singleton (by simp [accessBehaviours, hp])
  rw [exec_admitted ha, hb, State.perform, State.takeException]

/-! ### What a completed access leaves (R113 to R116, R121) -/

/-- The transfer of an `MRC` is the read of R113. -/
theorem State.readsTo_transfer (s : State) (n : Fin 31) {t : BitVec 4} (ht : t ≠ 15#4) :
    s.ReadsTo (s.transfer .mrc n t).advance n t := by
  refine ⟨fun b hb => ?_, fun j hj => s.readX_writeX_other hj _, ⟨rfl, rfl, rfl⟩,
    rfl, rfl, rfl, rfl, rfl, rfl, fun _ => rfl⟩
  rw [State.readX_advance, State.transfer, s.readX_writeX_same ht, readValue_getLsbD _ _ _ hb, State.reg]

/-- The transfer of an `MCR` is the write of R114, and touches no other register. -/
theorem State.writesTo_transfer (s : State) (n : Fin 31) (t : BitVec 4) :
    s.WritesTo (s.transfer .mcr n t).advance n t := by
  have hsame := s.reg_setReg_same n (writtenReg s.impl (s.readX t))
  refine ⟨congrArg EvReg.value hsame, ?_, s.superseded_setReg_same n (writtenReg s.impl (s.readX t)), fun m hm => ?_, fun _ => rfl,
    rfl, rfl, rfl, rfl, rfl, rfl, fun _ => rfl⟩
  · rw [← evtNum_eq_masked]
    exact congrArg EvReg.unknown hsame
  · have hother := s.reg_setReg_other hm (writtenReg s.impl (s.readX t))
    exact ⟨congrArg EvReg.value hother, congrArg EvReg.unknown hother, s.superseded_setReg_other hm (writtenReg s.impl (s.readX t))⟩

/-- Past the checks and in reach, an access transfers (R100 stage 5). -/
theorem exec_transfers {i : Instr} {s : State} (ha : i.Admitted) (hp : s.impl.havePMUv3 = true)
    (hc : s.ctx.CheckPasses s.impl i.kind) (hr : s.ctx.InReach s.impl i.reg) :
    exec i s = .next (s.transfer i.kind i.reg i.rt).advance := by
  rw [exec_admitted ha, State.behaviour_inRange hp hc hr, State.perform]

/-- Settles O14: the access transfers, and the transfer of an `MRC` is the read. -/
theorem readInRangeCompletes : Obligations.ReadInRangeCompletes := by
  intro i s hk ha hp hc hr
  refine ⟨_, exec_transfers ha hp (hk ▸ hc) hr, ?_⟩
  rw [hk]
  exact s.readsTo_transfer i.reg ha.2

/-- Settles O15: the access transfers, and the transfer of an `MCR` is the write. -/
theorem writeInRangeCompletes : Obligations.WriteInRangeCompletes := by
  intro i s hk ha hp hc hr
  refine ⟨_, exec_transfers ha hp (hk ▸ hc) hr, ?_⟩
  rw [hk]
  exact s.writesTo_transfer i.reg i.rt

/-- What an instruction that completes has done: a read, a write, RAZ/WI or nothing (R100 stage 5, R111). -/
theorem exec_next_effect {i : Instr} {s t : State} (h : exec i s = .next t) :
    (i.kind = .mrc ∧ s.ReadsTo t i.reg i.rt) ∨ (i.kind = .mcr ∧ s.WritesTo t i.reg i.rt) ∨
      s.RazWiTo t i.kind i.rt ∨ s.NopTo t := by
  obtain ⟨ha, ⟨-, rfl⟩ | ⟨-, rfl⟩ | ⟨-, rfl⟩⟩ := exec_next_cases h
  · cases hk : i.kind with
    | mrc => exact .inl ⟨rfl, s.readsTo_transfer i.reg ha.2⟩
    | mcr => exact .inr (.inl ⟨rfl, s.writesTo_transfer i.reg i.rt⟩)
  · exact .inr (.inr (.inl (s.razWiTo_advance i.kind ha.2)))
  · exact .inr (.inr (.inr s.nopTo_advance))

/-- An unchanged bank is unchanged at every register. -/
theorem State.SameBank.at {s t : State} (h : s.SameBank t) (m : Fin 31) :
    t.pmevtyper[m] = s.pmevtyper[m] ∧ t.unk[m] = s.unk[m] ∧ t.superseded[m] = s.superseded[m] := by
  obtain ⟨hp, hu, hs⟩ := h
  rw [hp, hu, hs]
  exact ⟨rfl, rfl, rfl⟩

/-- Settles O16: each of the four effects has the frame. -/
theorem completedAccessFrame : Obligations.CompletedAccessFrame := by
  intro i s t h
  obtain ⟨hk, -, hx, hbank, hadv⟩ | ⟨hk, -, -, -, hother, hx, hadv⟩ | ⟨-, hwi, hx, hbank, hadv⟩ |
    ⟨hx, hbank, hadv⟩ := exec_next_effect h
  · exact ⟨hadv, fun _ => ⟨hbank, hx⟩, fun hk' => by simp [hk] at hk'⟩
  · exact ⟨hadv, fun hk' => by simp [hk] at hk', fun _ => ⟨hx, hother⟩⟩
  · refine ⟨hadv, fun _ => ⟨hbank, hx⟩, fun hk => ⟨fun j => ?_, fun m _ => State.SameBank.at hbank m⟩⟩
    by_cases hj : j = i.rt
    · rw [hj, hwi hk]
    · exact hx j hj
  · exact ⟨hadv, fun _ => ⟨hbank, fun j _ => hx j⟩, fun _ => ⟨hx, fun m _ => State.SameBank.at hbank m⟩⟩

/-! ### The checks of the Exception levels (R102 to R106, R123) -/

theorem accessCheck_el0 {x : Ctx} (hx : x.el = .el0) (c : Impl) (k : Kind) : accessCheck c x k = checkEL0 c x k := by
  simp only [accessCheck, hx]

theorem accessCheck_el1 {x : Ctx} (hx : x.el = .el1) (c : Impl) (k : Kind) : accessCheck c x k = checkEL1 c x := by
  simp only [accessCheck, hx]

theorem accessCheck_el2 {x : Ctx} (hx : x.el = .el2) (c : Impl) (k : Kind) : accessCheck c x k = checkEL2 c x := by
  simp only [accessCheck, hx]

theorem accessCheck_el3 {x : Ctx} (hx : x.el = .el3) (c : Impl) (k : Kind) : accessCheck c x k = .proceed := by
  simp only [accessCheck, hx, checkEL3]

/-- The check at EL0, arms 0a.1 to 0g in the spec's fields (R102). -/
theorem checkEL0_eq (c : Impl) (x : Ctx) (k : Kind) :
    checkEL0 c x k =
      if x.a32EL1 = false ∧ x.pmuserenrEL0EN = 0 then
        if x.el2Enabled = true ∧ x.a32EL2 = false ∧ x.hcrEL2TGE = 1 then .raise (.trapA64 .el2 0x03)
        else .raise (.trapA64 .el1 0x03)
      else if x.a32EL1 = true ∧ x.pmuserenrEN = 0 then
        if x.el2Enabled = true ∧ x.a32EL2 = false ∧ x.hcrEL2TGE = 1 then .raise (.trapA64 .el2 0x03)
        else if x.el2Enabled = true ∧ x.a32EL2 = true ∧ x.hcrTGE = 1 then .raise (.hypTrap 0x00)
        else .raise .undefined
      else if x.FineGrainedTrap c k then .raise (.trapA64 .el2 0x03)
      else if x.TrapsToA64EL2 then .raise (.trapA64 .el2 0x03)
      else if x.TrapsToHyp then .raise (.hypTrap 0x03)
      else if x.TrapsToEL3 c then .raise (.trapA64 .el3 0x03)
      else .proceed := by
  by_cases h64 : x.a32EL1 = false ∧ x.pmuserenrEL0EN = 0
  · rw [checkEL0_disabled (.inl h64), if_pos h64, if_pos h64.1]
  by_cases h32 : x.a32EL1 = true ∧ x.pmuserenrEN = 0
  · rw [checkEL0_disabled (.inr h32), if_neg h64, if_pos h32, if_neg (by simp [h32.1] : ¬x.a32EL1 = false)]
  · rw [checkEL0_enabled (by rintro (h | h) <;> contradiction), if_neg h64, if_neg h32]

/-- The guard of the fine-grained trap with the bit of each kind written out (R106). -/
theorem fineGrainedTrap_iff (c : Impl) (x : Ctx) (k : Kind) :
    x.FineGrainedTrap c k ↔
      x.el2Enabled = true ∧ x.a32EL1 = false ∧ ¬(x.hcrEL2E2H = 1 ∧ x.hcrEL2TGE = 1) ∧
        (c.haveEL3 = false ∨ x.scrEL3FGTEn = 1) ∧ c.haveFGT = true ∧
        (if k = .mrc then x.hdfgrtrEL2PMEVTYPERn = 1 else x.hdfgwtrEL2PMEVTYPERn = 1) := by
  have hEL3 : (c.haveEL3 = true → x.scrEL3FGTEn = 1) ↔ (c.haveEL3 = false ∨ x.scrEL3FGTEn = 1) := by
    cases c.haveEL3 <;> simp
  rw [Ctx.FineGrainedTrap, hEL3]
  cases k <;> rfl

/-- Settles O19: each level's check, the guard of arm 0c in the fields of R106. -/
theorem checksOfTheExceptionLevels : Obligations.ChecksOfTheExceptionLevels := by
  intro c x k
  refine ⟨fun hx => ?_, fun hx => ?_, fun hx => ?_, fun hx => accessCheck_el3 hx c k⟩
  · rw [accessCheck_el0 hx, checkEL0_eq]
    simp only [← fineGrainedTrap_iff]
  · rw [accessCheck_el1 hx, checkEL1_eq]
  · rw [accessCheck_el2 hx, checkEL2_eq]

/-! ### An access to a register in reach (R102 to R105, R112) -/

section InReach

variable {i : Instr} {s : State} (ha : i.Admitted) (hp : s.impl.havePMUv3 = true)
  (hr : s.ctx.InReach s.impl i.reg)

include ha hp hr

/-- In reach, a check that raises decides the access. -/
theorem exec_raises {r : Raise} (hc : accessCheck s.impl s.ctx i.kind = .raise r) : exec i s = s.takeException r := by
  rw [exec_admitted ha, State.behaviour_raises hp hc hr, State.perform]

/-- In reach, a check that proceeds lets the access complete. -/
theorem exec_completes (hc : accessCheck s.impl s.ctx i.kind = .proceed) : ∃ t, exec i s = .next t :=
  ⟨_, exec_transfers ha hp ((accessCheck_proceed_iff _ _ _).1 hc) hr⟩

end InReach

/-- Settles O20: the arm that fires in the check decides the access. -/
theorem accessAtEL0 : Obligations.AccessAtEL0 := by
  intro i s ha hp hx hr
  have hc := accessCheck_el0 hx s.impl i.kind
  rw [checkEL0_eq] at hc
  split_ifs at hc ⊢
  any_goals exact exec_raises ha hp hr hc
  exact exec_completes ha hp hr hc

/-- Settles O21: the arm that fires in the check decides the access. -/
theorem accessAtEL1 : Obligations.AccessAtEL1 := by
  intro i s ha hp hx hr
  have hc := accessCheck_el1 hx s.impl i.kind
  rw [checkEL1_eq] at hc
  split_ifs at hc ⊢
  · exact exec_raises ha hp hr hc
  · exact exec_raises ha hp hr hc
  · exact exec_raises ha hp hr hc
  · exact exec_completes ha hp hr hc

/-- Settles O22: the one trap that reaches EL2, or completion. -/
theorem accessAtEL2 : Obligations.AccessAtEL2 := by
  intro i s ha hp hx hr
  have hc := accessCheck_el2 hx s.impl i.kind
  rw [checkEL2_eq] at hc
  split_ifs at hc ⊢
  · exact exec_raises ha hp hr hc
  · exact exec_completes ha hp hr hc

/-- At EL3 neither EL2 nor the fine-grained rule limits the counters: every implemented one is in reach. -/
theorem Ctx.inReach_el3 {c : Impl} {x : Ctx} {n : Fin 31} (hx : x.el = .el3) (hn : n.val < c.numCounters.val) :
    x.InReach c n := by
  refine ⟨hn, fun hlim => ?_, fun hfgt => ?_⟩
  · obtain ⟨-, h0 | h1⟩ := hlim
    · rw [hx] at h0; cases h0
    · rw [hx] at h1; cases h1
  · obtain ⟨-, -, -, h0, -⟩ := hfgt
    rw [hx] at h0; cases h0

/-- Settles O23: nothing is checked at EL3, so the access transfers. -/
theorem accessAtEL3 : Obligations.AccessAtEL3 := by
  intro i s ha hp hx hn
  have hc := (accessCheck_proceed_iff _ _ _).1 (accessCheck_el3 hx s.impl i.kind)
  refine ⟨_, exec_transfers ha hp hc (Ctx.inReach_el3 hx hn), fun hk => ?_, fun hk => ?_⟩
  · rw [hk]; exact s.readsTo_transfer i.reg ha.2
  · rw [hk]; exact s.writesTo_transfer i.reg i.rt

/-! ### The range rules, case by case (R108 to R112) -/

/-- Settles O24: `HPMN` in force is the field that EL2's execution state selects. -/
theorem accessibleCounters : Obligations.AccessibleCounters := by
  intro c x
  refine ⟨fun hlim h32 => ?_, fun hlim h64 => ?_, accessible_unlimited⟩
  · rw [accessible_limited hlim, Ctx.hpmnInForce, if_pos h32]
  · rw [accessible_limited hlim, Ctx.hpmnInForce, if_neg (by simp [h64])]

/-- The fine-grained rule gives a behaviour for the register number (R110). -/
abbrev Ctx.FineGrainedRangeDecides (c : Impl) (x : Ctx) (n : Fin 31) : Prop :=
  x.FineGrainedRange c ∧ (c.numCounters.val ≤ n.val ∨ x.mdcrEL2HPMN ≤ n.val)

section Range

variable {c : Impl} {x : Ctx} {n : Fin 31}

/-- R110, first clause. -/
theorem rangeBehaviours_fineGrained_unimplemented (h : x.FineGrainedRange c) (hn : c.numCounters.val ≤ n.val) :
    rangeBehaviours c x n = [.raise .undefined] := by
  rw [rangeBehaviours, if_pos (by simp [(fgtCase_iff c x).2 h, hn])]

/-- R110, second clause. -/
theorem rangeBehaviours_fineGrained_reserved (h : x.FineGrainedRange c) (hn : n.val < c.numCounters.val)
    (hh : x.mdcrEL2HPMN ≤ n.val) : rangeBehaviours c x n = [.raise .trapEL2Range] := by
  rw [rangeBehaviours, if_neg (by simp [hn]), if_pos (by simp [(fgtCase_iff c x).2 h, hh])]

/-- Where the fine-grained rule gives nothing, R111 and R109 answer. -/
theorem rangeBehaviours_general (h : ¬x.FineGrainedRangeDecides c n) :
    rangeBehaviours c x n =
      if accessible c x ≤ n.val then
        unconditionalBehaviours ++ (if rangeMayTrap c x n then [.raise .trapEL2Range] else [])
      else if n.val < c.numCounters.val then [.inRange]
      else unconditionalBehaviours := by
  rw [rangeBehaviours, if_neg, if_neg]
  · simp only [Bool.and_eq_true, decide_eq_true_eq, fgtCase_iff]
    exact fun e => h ⟨e.1, .inr e.2⟩
  · simp only [Bool.and_eq_true, decide_eq_true_eq, fgtCase_iff]
    exact fun e => h ⟨e.1, .inl e.2⟩

theorem mem_unconditionalBehaviours (b : Behaviour) :
    b ∈ unconditionalBehaviours ↔ b = .raise .undefined ∨ b = .razWi ∨ b = .nop := by
  simp [unconditionalBehaviours]

end Range

/-- Settles O25: below both bounds the rule gives nothing, and the answer reads ARMv8.6-FGT nowhere else. -/
theorem rangeWithFineGrainedTraps : Obligations.RangeWithFineGrainedTraps := by
  intro c x n h
  refine ⟨rangeBehaviours_fineGrained_unimplemented h, rangeBehaviours_fineGrained_reserved h, fun hn hh => ?_⟩
  have hwith : ¬x.FineGrainedRangeDecides c n := fun ⟨_, e⟩ => by omega
  have hwithout : ¬x.FineGrainedRangeDecides { c with haveFGT := false } n := fun ⟨e, _⟩ => by cases e.1
  rw [rangeBehaviours_general hwith, rangeBehaviours_general hwithout]
  rfl

/-- Settles O26: the unconditional behaviours, and the trap under its condition. -/
theorem rangeGeneralCase : Obligations.RangeGeneralCase := by
  intro c x n b h hacc
  rw [rangeBehaviours_general h, if_pos hacc, List.mem_append, mem_unconditionalBehaviours, ← rangeMayTrap_iff]
  cases rangeMayTrap c x n <;> simp [or_assoc]

/-- Settles O27: storage decides between the two remaining answers of the range rules. -/
theorem rangeBelowAccessible : Obligations.RangeBelowAccessible := by
  intro c x n b h hacc
  rw [rangeBehaviours_general h, if_neg (not_le.2 hacc)]
  split
  · exact List.mem_singleton
  · exact mem_unconditionalBehaviours b

/-! ### Which outcomes are admitted (R100, R112) -/

/-- With PMUv3 the admitted outcomes are the combination of the check and the range rules (R101, R112). -/
theorem accessBehaviours_present {c : Impl} (hp : c.havePMUv3 = true) (x : Ctx) (k : Kind) (n : Fin 31) :
    accessBehaviours c x k n = combine (accessCheck c x k) (rangeBehaviours c x n) := by
  rw [accessBehaviours, if_pos hp]

/-- In range the check alone decides. -/
theorem mem_combine_inRange (a : Check) (b : Behaviour) :
    b ∈ combine a [.inRange] ↔ (a = .proceed ∧ b = .inRange) ∨ ∃ r, a = .raise r ∧ b = .raise r := by
  cases a <;> simp [combine]

/-- Out of range either order of the check and the range rules is admitted. -/
theorem mem_combine_outOfRange {bs : List Behaviour} (h : bs ≠ [.inRange]) (a : Check) (b : Behaviour) :
    b ∈ combine a bs ↔ b ∈ bs ∨ ∃ r, a = .raise r ∧ b = .raise r := by
  cases a with
  | proceed => simp [combine]
  | raise r => simp [combine, h, or_comm]

/-- Settles O28: membership in the combination, by whether the range set is in range only. -/
theorem everyOrderOfTheChecksIsAdmitted : Obligations.EveryOrderOfTheChecksIsAdmitted := by
  intro c x k n b hp
  rw [accessBehaviours_present hp]
  exact ⟨fun hin => by rw [hin]; exact mem_combine_inRange _ b, fun hout => mem_combine_outOfRange hout _ b⟩

/-- Settles O29: the behaviour performed is the one chosen, a member of the admitted set. -/
theorem outcomeIsAdmitted : Obligations.OutcomeIsAdmitted :=
  fun i s ha => ⟨_, s.behaviour_mem i.kind i.reg, exec_admitted ha s⟩

/-! ### Past the checks and out of reach (R110, R111) -/

/-- Past the checks, the range rules alone say what is admitted. -/
theorem accessBehaviours_of_checkPasses {c : Impl} {x : Ctx} {k : Kind} (hp : c.havePMUv3 = true)
    (hc : x.CheckPasses c k) (n : Fin 31) : accessBehaviours c x k n = rangeBehaviours c x n := by
  rw [accessBehaviours_present hp, (accessCheck_proceed_iff c x k).2 hc, combine]

/-- With `RangeTrapForm` abstract the range trap keeps its own form (R173). -/
theorem State.takeException_trapEL2Range {s : State} (h : s.impl.rangeTrapForm = .abstract) :
    s.takeException .trapEL2Range = .fault .trapEL2Range := by
  simp only [State.takeException, h]

/-- Settles O30: each member of the range set of R111 (O26), performed. -/
theorem outOfReachAccess : Obligations.OutOfReachAccess := by
  intro i s ha hp hc hfgt hacc hform
  have hmem := s.behaviour_mem i.kind i.reg
  rw [accessBehaviours_of_checkPasses hp hc, rangeGeneralCase _ _ _ _ (fun e => hfgt e.1) hacc] at hmem
  rw [exec_admitted ha]
  obtain hb | hb | hb | ⟨hb, hel2, hn, hel⟩ := hmem <;> rw [hb]
  · exact .inl rfl
  · exact .inr (.inl ⟨_, rfl, s.razWiTo_advance i.kind ha.2⟩)
  · exact .inr (.inr (.inl ⟨_, rfl, s.nopTo_advance⟩))
  · exact .inr (.inr (.inr ⟨State.takeException_trapEL2Range hform, hel2, hn, hel.symm.imp_left And.left⟩))

/-- Past the checks, the one behaviour the range rules give is performed. -/
theorem exec_of_rangeBehaviours_singleton {i : Instr} {s : State} {b : Behaviour} (ha : i.Admitted)
    (hp : s.impl.havePMUv3 = true) (hc : s.ctx.CheckPasses s.impl i.kind)
    (hb : rangeBehaviours s.impl s.ctx i.reg = [b]) : exec i s = s.perform i.kind i.reg i.rt b := by
  rw [exec_admitted ha, State.behaviour_of_singleton ((accessBehaviours_of_checkPasses hp hc _).trans hb)]

/-- Settles O31: each clause of R110 admits one behaviour. -/
theorem fineGrainedRangeAccess : Obligations.FineGrainedRangeAccess := by
  intro i s ha hp hc hfgt hform
  refine ⟨fun hn => ?_, fun hn hh => ?_⟩
  · rw [exec_of_rangeBehaviours_singleton ha hp hc (rangeBehaviours_fineGrained_unimplemented hfgt hn)]
    rfl
  · rw [exec_of_rangeBehaviours_singleton ha hp hc (rangeBehaviours_fineGrained_reserved hfgt hn hh)]
    exact State.takeException_trapEL2Range hform

/-! ### Reads after a write through another view (R117, R118, D22) -/

/-- A write of known bits through another view leaves UNKNOWN evtCount alone, for a number that reads back UNKNOWN. -/
theorem viewWrittenReg_known_unknown_iff (c : Impl) (value : Word) (b : Nat) :
    (viewWrittenReg c value 0).unknown.getLsbD b = true ↔
      evtReadbackUnknown c (evtNum c value) = true ∧ (evtMask c).getLsbD b = true := by
  simp [viewWrittenReg, writtenUnknown, maskWhen_getLsbD]

/-- Settles O59: the turn leaves the context and the implementation, so the `MRC` transfers what the view wrote. -/
theorem writeThroughAnotherViewIsReadBack : Obligations.WriteThroughAnotherViewIsReadBack := by
  intro i s view value rest hk ha hturns hp hc hr
  obtain ⟨t, ht, hread, -⟩ := readInRangeCompletes i
    (({ s with turns := rest } : State).applyEnv (.viewWrite view i.reg value 0)) hk ha hp hc hr
  refine ⟨_, t, step_of_env_turn hturns, ht, fun b hb => (hread b hb).trans ?_⟩
  have hreg := ({ s with turns := rest } : State).reg_setReg_same i.reg (viewWrittenReg s.impl value 0)
  have hunknown := congrArg (fun r => r.unknown.getLsbD b = true) hreg
  have hvalue := congrArg (fun r => r.value.getLsbD b) hreg
  exact if_congr ((Iff.of_eq hunknown).trans (viewWrittenReg_known_unknown_iff s.impl value b)) rfl
    (if_congr Iff.rfl rfl hvalue)

end Sys2Proof.Machine

namespace Sys2Proof.Machine

/-! ### Event numbers (R149 to R154) -/

/-- ANDing with `EVTMASK` keeps the low 16 or ten bits (R33). -/
theorem toNat_and_evtMask (c : Impl) (v : Word) :
    (v &&& evtMask c).toNat = v.toNat % (if c.havePMUv3p1 then 65536 else 1024) := by
  rw [BitVec.toNat_and]
  cases h : c.havePMUv3p1 <;> simp only [evtMask, h, if_true, Bool.false_eq_true, if_false]
  · exact Nat.and_two_pow_sub_one_eq_mod v.toNat 10
  · exact Nat.and_two_pow_sub_one_eq_mod v.toNat 16

/-- Settles O37: the number is `v AND EVTMASK`, and the mask is one below a power of two. -/
theorem eventNumberOfARegister : Obligations.EventNumberOfARegister :=
  fun c v => ⟨(toNat_evtNum c v).trans (toNat_and_evtMask c v), toNat_evtNum c v⟩

/-- Settles O38: the numbers that read back are those of the first three cases. -/
theorem eventNumbersThatReadBackUnknown : Obligations.EventNumbersThatReadBackUnknown := by
  intro c e
  rw [evtReadbackUnknown_eq]
  split_ifs with hsup hfirst hsecond
  · exact ⟨nofun, fun ⟨hunsup, _, _⟩ => absurd hsup (Bool.eq_false_iff.1 hunsup)⟩
  · exact ⟨nofun, fun ⟨_, hlt, _⟩ => absurd hfirst (Nat.not_le.2 hlt)⟩
  · exact ⟨nofun, fun ⟨_, _, hn⟩ => absurd hsecond hn⟩
  · exact ⟨fun _ => ⟨Bool.eq_false_iff.2 hsup, Nat.lt_of_not_le hfirst, hsecond⟩, fun _ => rfl⟩

/-- An unsupported number in a known range falls in the case of that range (R151, R152). -/
theorem eventCase_of_knownRange {c : Impl} {e : EventNumber} (hsup : EventRange.covers c.supportedEvents e = false)
    (hrange : e.toNat ≤ 0x003F ∨ (c.havePMUv3p1 = true ∧ 0x4000 ≤ e.toNat ∧ e.toNat ≤ 0x403F)) :
    eventCase c e = .firstKnownRange ∨ eventCase c e = .secondKnownRange := by
  simp only [eventCase, hsup, Bool.false_eq_true, if_false, BitVec.le_def]
  obtain hfirst | ⟨hp1, hlo, hhi⟩ := hrange
  · exact .inl (if_pos hfirst)
  · have hfirst : ¬ e.toNat ≤ (0x003F#16).toNat := Nat.not_le.2 (Nat.lt_of_lt_of_le (by decide) hlo)
    rw [if_neg hfirst, if_pos (by simp [hp1, hlo, hhi])]
    exact .inr rfl

/-- A known range selects no event (R151, R152). -/
theorem selectedEvent_of_knownRange {c : Impl} {v : Word}
    (hcase : eventCase c (evtNum c v) = .firstKnownRange ∨ eventCase c (evtNum c v) = .secondKnownRange)
    (o : Occurrence) (n : Fin 31) : selectedEvent c o n v = none := by
  obtain h | h := hcase <;> simp only [selectedEvent, h]

/-- Where no event is selected, nothing is counted (R140, R149). -/
theorem State.counted_of_selectedEvent_none {s : State} {o : Occurrence} {n : Fin 31}
    (h : selectedEvent s.impl o n (s.governingValue o n) = none) : s.counted o n = false := by
  rw [Bool.eq_false_iff, ne_eq, State.counted_iff]
  rintro ⟨-, -, hsel⟩
  exact nomatch h.symm.trans hsel

/-- Settles O54: a known range selects no event, and O38 leaves its numbers out. -/
theorem knownRangesCountNothing : Obligations.KnownRangesCountNothing := by
  rintro s o n e rfl hsup hrange
  refine ⟨State.counted_of_selectedEvent_none
    (selectedEvent_of_knownRange (eventCase_of_knownRange hsup hrange) o n), Bool.eq_false_iff.2 fun hunk => ?_⟩
  obtain ⟨-, habove, hnot⟩ := (eventNumbersThatReadBackUnknown _ _).1 hunk
  exact hrange.elim (Nat.not_le.2 habove) hnot

/-- Settles O55: a supported number selects itself, and O38 leaves it out. -/
theorem supportedEventIsTheOneCounted : Obligations.SupportedEventIsTheOneCounted := by
  rintro s o n e rfl hsup
  refine ⟨?_, Bool.eq_false_iff.2 fun hunk => ?_⟩
  · rw [State.counted_iff, selectedEvent_of_supported hsup, Option.some_inj, eq_comm (b := o.event)]
  · obtain ⟨hunsup, -⟩ := (eventNumbersThatReadBackUnknown _ _).1 hunk
    exact Bool.false_ne_true (hunsup.symm.trans hsup)

/-! ### The filter on the controlling PE, and occurrences on another (R141 to R143; R146, R147) -/

/-- Settles O50: at EL1 the filter is `AllowsEL1`. -/
theorem filterAtEL1 : Obligations.FilterAtEL1 := by
  intro c x o n v ho hx
  rw [filterAllows_el1 ho hx, allowsEL1_iff]

/-- Settles O51: at EL0 the filter is `AllowsEL0`. -/
theorem filterAtEL0 : Obligations.FilterAtEL0 := by
  intro c x o n v ho hx
  rw [filterAllows_el0 ho hx, allowsEL0_iff]

/-- Settles O52: at EL2 the filter is `AllowsEL2`, whose Non-secure branch is NSH. -/
theorem filterAtNonSecureEL2 : Obligations.FilterAtNonSecureEL2 := by
  intro c x o n v ho hx h2 hsec
  rw [filterAllows_el2 ho hx, hsec, allowsEL2_nonSecure_iff h2]

/-- The multithreading rule for another PE, in the bits of the register (R146, R147). -/
theorem originCounted_otherPE_iff (c : Impl) (v : Word) (upper : List Nat) :
    originCounted c v (.otherPE upper) = true ↔
      c.haveMTPMU = true ∧ v.getLsbD 25 = true ∧ upper = c.upperAffinity := by
  simp only [originCounted, fieldMT, field_eq_ofBool, Bool.and_eq_true, beq_iff_eq, ofBool_eq_one_iff, and_assoc]

/-- Settles O53: what multithreading rules out is not counted, whatever the filter and the selection say. -/
theorem otherPEsAreCountedOnlyUnderMT : Obligations.OtherPEsAreCountedOnlyUnderMT := by
  intro s o n upper ho
  have hmt := originCounted_otherPE_iff s.impl (s.governingValue o n) upper
  rw [← ho] at hmt
  refine ⟨hmt, fun hnot => Bool.eq_false_iff.2 fun hcounted => ?_⟩
  obtain ⟨horigin, -, -⟩ := (State.counted_iff s o n).1 hcounted
  exact hnot (hmt.1 horigin)

end Sys2Proof.Machine

namespace Sys2Proof.Machine

/-! ### What an access raises, and under which guard (60_exceptions.md R170 to R173, R176) -/

/-- The outcomes an access may fault with, each with the guard of its call sites (R102 to R104, R110, R111). The range
trap stands under its own name only where `RangeTrapForm` leaves it so (R173). -/
inductive State.FaultsUnderGuard (s : State) : Fault → Prop
  | undefined : s.FaultsUnderGuard .undefined
  | trapToEL1 (hel : s.ctx.el = .el0) (h64 : s.ctx.a32EL1 = false) (hdis : s.ctx.UserDisabled) :
      s.FaultsUnderGuard (.trapA64 .el1 0x03)
  | trapToEL2 (h : s.ctx.LimitedByEL2) : s.FaultsUnderGuard (.trapA64 .el2 0x03)
  | trapToHyp (h : s.ctx.LimitedByEL2) : s.FaultsUnderGuard (.hypTrap 0x03)
  | rangeTrap (h : s.ctx.LimitedByEL2) (hform : s.impl.rangeTrapForm = .abstract) : s.FaultsUnderGuard .trapEL2Range
  | trapToEL3 (hel : s.ctx.el ≠ .el3) (h : s.ctx.TrapsToEL3 s.impl) : s.FaultsUnderGuard (.trapA64 .el3 0x03)
  | reroutedToHyp (hel : s.ctx.el = .el0) (hdis : s.ctx.UserDisabled) (hel2 : s.ctx.el2Enabled = true)
      (h32 : s.ctx.a32EL2 = true) (htge : s.ctx.hcrTGE = 1) : s.FaultsUnderGuard (.hypTrap 0x00)

/-- Taken in the state, the outcome ends in a fault that stands under its guard. -/
def State.RaisesUnderGuard (s : State) (r : Raise) : Prop :=
  ∃ f, s.takeException r = .fault f ∧ s.FaultsUnderGuard f

section

variable {s : State} {k : Kind} {n : Fin 31} {r : Raise}

/-- With `RangeTrapForm` = `like_TPM` the range trap is taken as the TPM trap of EL2's execution state (R173, D5). -/
theorem State.takeException_trapEL2Range_likeTPM (h : s.impl.rangeTrapForm = .likeTPM) :
    s.takeException .trapEL2Range = if s.ctx.a32EL2 then .fault (.hypTrap 0x03) else .fault (.trapA64 .el2 0x03) := by
  simp only [State.takeException, h]

/-- In each of its forms the range trap is a trap to EL2 from EL0 or EL1. -/
theorem State.raisesUnderGuard_rangeTrap (h : s.ctx.LimitedByEL2) : s.RaisesUnderGuard .trapEL2Range := by
  cases hform : s.impl.rangeTrapForm with
  | abstract => exact ⟨_, State.takeException_trapEL2Range hform, .rangeTrap h hform⟩
  | likeTPM =>
    rw [State.RaisesUnderGuard, State.takeException_trapEL2Range_likeTPM hform]
    split
    · exact ⟨_, rfl, .trapToHyp h⟩
    · exact ⟨_, rfl, .trapToEL2 h⟩

theorem checkEL2_raisesUnderGuard (hel : s.ctx.el ≠ .el3) (h : checkEL2 s.impl s.ctx = .raise r) :
    s.RaisesUnderGuard r := by
  rw [checkEL2_eq] at h
  split_ifs at h with hEL3
  cases h
  exact ⟨_, rfl, .trapToEL3 hel hEL3⟩

/-- The check at EL1 is the two TPM traps to EL2 before the check at EL2 (R103, R104). -/
theorem checkEL1_eq_checkEL2 (c : Impl) (x : Ctx) :
    checkEL1 c x =
      if x.TrapsToA64EL2 then .raise (.trapA64 .el2 0x03)
      else if x.TrapsToHyp then .raise (.hypTrap 0x03)
      else checkEL2 c x := by
  rw [checkEL1_eq, checkEL2_eq]

/-- A permitted access at EL0 meets the fine-grained trap before the check at EL1 (R102 arms 0c to 0g, R103). -/
theorem checkEL0_enabled_eq_checkEL1 {c : Impl} {x : Ctx} (h : ¬x.UserDisabled) :
    checkEL0 c x k = if x.FineGrainedTrap c k then .raise (.trapA64 .el2 0x03) else checkEL1 c x := by
  rw [checkEL0_enabled h, checkEL1_eq]

theorem checkEL1_raisesUnderGuard (hel : s.ctx.el = .el0 ∨ s.ctx.el = .el1)
    (h : checkEL1 s.impl s.ctx = .raise r) : s.RaisesUnderGuard r := by
  rw [checkEL1_eq_checkEL2] at h
  split_ifs at h with hA64 hHyp
  · cases h; exact ⟨_, rfl, .trapToEL2 ⟨hA64.1, hel⟩⟩
  · cases h; exact ⟨_, rfl, .trapToHyp ⟨hHyp.1, hel⟩⟩
  · exact checkEL2_raisesUnderGuard (by rcases hel with e | e <;> simp [e]) h

theorem checkEL0_raisesUnderGuard (hel : s.ctx.el = .el0) (h : checkEL0 s.impl s.ctx k = .raise r) :
    s.RaisesUnderGuard r := by
  by_cases hdis : s.ctx.UserDisabled
  · rw [checkEL0_disabled hdis] at h
    split_ifs at h with hTGE h64 hHyp <;> cases h
    · exact ⟨_, rfl, .trapToEL2 ⟨hTGE.1, .inl hel⟩⟩
    · exact ⟨_, rfl, .trapToEL1 hel h64 hdis⟩
    · obtain ⟨hel2, h32, htge⟩ := hHyp
      exact ⟨_, rfl, .reroutedToHyp hel hdis hel2 h32 htge⟩
    · exact ⟨_, rfl, .undefined⟩
  · rw [checkEL0_enabled_eq_checkEL1 hdis] at h
    split_ifs at h with hFGT
    · cases h; exact ⟨_, rfl, .trapToEL2 ⟨hFGT.1, .inl hel⟩⟩
    · exact checkEL1_raisesUnderGuard (.inl hel) h

/-- The check of each Exception level raises only under the guard of the outcome (R102 to R105). -/
theorem accessCheck_raisesUnderGuard (h : accessCheck s.impl s.ctx k = .raise r) : s.RaisesUnderGuard r := by
  cases hel : s.ctx.el with
  | el0 => rw [accessCheck_el0 hel] at h; exact checkEL0_raisesUnderGuard hel h
  | el1 => rw [accessCheck_el1 hel] at h; exact checkEL1_raisesUnderGuard (.inr hel) h
  | el2 => rw [accessCheck_el2 hel] at h; exact checkEL2_raisesUnderGuard (by simp [hel]) h
  | el3 => rw [accessCheck_el3 hel] at h; cases h

/-- The range rules raise `Undefined`, or the range trap where EL2 limits the counters (R109 to R111). -/
theorem raise_of_mem_rangeBehaviours {c : Impl} {x : Ctx} (h : .raise r ∈ rangeBehaviours c x n) :
    r = .undefined ∨ (r = .trapEL2Range ∧ x.LimitedByEL2) := by
  by_cases hdec : x.FineGrainedRangeDecides c n
  · obtain ⟨hfgt, hn⟩ := hdec
    obtain ⟨-, hel2, -, hel, -⟩ := id hfgt
    by_cases hN : c.numCounters.val ≤ n.val
    · rw [rangeBehaviours_fineGrained_unimplemented hfgt hN] at h
      exact .inl (by simpa using h)
    · rw [rangeBehaviours_fineGrained_reserved hfgt (not_le.1 hN) (hn.resolve_left hN)] at h
      exact .inr ⟨by simpa using h, hel2, .inl hel⟩
  · by_cases hacc : accessible c x ≤ n.val
    · obtain hb | hb | hb | ⟨hb, hel2, -, hel⟩ := (rangeGeneralCase c x n _ hdec hacc).1 h <;> cases hb
      · exact .inl rfl
      · exact .inr ⟨rfl, hel2, hel.symm.imp_left And.left⟩
    · have hb := (rangeBelowAccessible c x n _ hdec (not_le.1 hacc)).1 h
      split at hb
      · cases hb
      · obtain hb | hb | hb := hb <;> cases hb
        exact .inl rfl

/-- Presence, the check and the range rules are all that raises (R101, R112). -/
theorem raise_of_mem_accessBehaviours {c : Impl} {x : Ctx} (h : .raise r ∈ accessBehaviours c x k n) :
    r = .undefined ∨ accessCheck c x k = .raise r ∨ .raise r ∈ rangeBehaviours c x n := by
  by_cases hp : c.havePMUv3 = true
  · obtain ⟨hin, hout⟩ := everyOrderOfTheChecksIsAdmitted c x k n (.raise r) hp
    by_cases hrange : rangeBehaviours c x n = [.inRange]
    · obtain ⟨-, hb⟩ | ⟨r', hc, hb⟩ := (hin hrange).1 h <;> cases hb
      exact .inr (.inl hc)
    · obtain hb | ⟨r', hc, hb⟩ := (hout hrange).1 h
      · exact .inr (.inr hb)
      · cases hb; exact .inr (.inl hc)
  · rw [accessBehaviours, if_neg hp] at h
    exact .inl (by simpa using h)

/-- An outcome chosen among the admitted ones raises only under its guard. -/
theorem State.behaviour_raisesUnderGuard (h : s.behaviour k n = .raise r) : s.RaisesUnderGuard r := by
  have hmem := s.behaviour_mem k n
  rw [h] at hmem
  obtain rfl | hcheck | hrange := raise_of_mem_accessBehaviours hmem
  · exact ⟨_, rfl, .undefined⟩
  · exact accessCheck_raisesUnderGuard hcheck
  · obtain rfl | ⟨rfl, hlim⟩ := raise_of_mem_rangeBehaviours hrange
    · exact ⟨_, rfl, .undefined⟩
    · exact State.raisesUnderGuard_rangeTrap hlim

end

section

variable {i : Instr} {s : State} {f : Fault}

/-- An instruction that faults is an admitted form: the others are refused (R119, R120). -/
theorem admitted_of_exec_fault (h : exec i s = .fault f) : i.Admitted := by
  refine ⟨by_contra fun hc => ?_, fun hrt => ?_⟩
  · rw [conditionalFormIsRefused i s hc] at h; cases h
  · rw [rtFifteenIsRefused i s hrt] at h; cases h

/-- A behaviour that gives a fault is an outcome that raises (R100 stage 5). -/
theorem State.perform_fault {k : Kind} {n : Fin 31} {t : BitVec 4} {b : Behaviour}
    (h : s.perform k n t b = .fault f) : ∃ r, b = .raise r ∧ s.takeException r = .fault f := by
  cases b with
  | raise r => exact ⟨r, rfl, h⟩
  | _ => cases h

/-- An instruction faults only with an outcome of the spec, and under the guard of that outcome. -/
theorem exec_faultsUnderGuard (h : exec i s = .fault f) : s.FaultsUnderGuard f := by
  rw [exec_admitted (admitted_of_exec_fault h)] at h
  obtain ⟨r, hb, hf⟩ := State.perform_fault h
  obtain ⟨f', hf', hguard⟩ := State.behaviour_raisesUnderGuard hb
  cases hf.symm.trans hf'
  exact hguard

end

/-- Settles O32: the trap's own name needs the abstract form, and the one outcome R110 admits is taken refined. -/
theorem refinedRangeTrapTakesTheTpmForm : Obligations.RefinedRangeTrapTakesTheTpmForm := by
  intro i s hform
  refine ⟨fun h => ?_, fun ha hp hc hfgt hn hh => ?_⟩
  · cases exec_faultsUnderGuard h with
    | rangeTrap _ habstract => cases hform.symm.trans habstract
  · rw [exec_of_rangeBehaviours_singleton ha hp hc (rangeBehaviours_fineGrained_reserved hfgt hn hh)]
    exact State.takeException_trapEL2Range_likeTPM hform

/-- Settles O34: one disjunct for each guarded outcome. -/
theorem faultsCarryTheSourcesCodes : Obligations.FaultsCarryTheSourcesCodes := by
  intro i s f h
  cases exec_faultsUnderGuard h with
  | undefined => exact .inl rfl
  | trapToEL1 => exact .inr (.inl rfl)
  | trapToEL2 => exact .inr (.inr (.inl rfl))
  | trapToEL3 => exact .inr (.inr (.inr (.inl rfl)))
  | reroutedToHyp => exact .inr (.inr (.inr (.inr (.inl rfl))))
  | trapToHyp => exact .inr (.inr (.inr (.inr (.inr (.inl rfl)))))
  | rangeTrap _ hform => exact .inr (.inr (.inr (.inr (.inr (.inr ⟨rfl, hform⟩)))))

/-- Settles O35: each trap's guard, the three forms of a trap to EL2 sharing theirs. -/
theorem trapsAreRoutedByTheGuards : Obligations.TrapsAreRoutedByTheGuards := by
  intro i s
  refine ⟨fun h => ?_, ?_, fun h => ?_, fun h => ?_⟩
  · cases exec_faultsUnderGuard h with
    | trapToEL1 hel h64 hdis => exact ⟨hel, h64, hdis⟩
  · rintro (h | h | h)
    · cases exec_faultsUnderGuard h with
      | trapToEL2 hlim => exact hlim
    · cases exec_faultsUnderGuard h with
      | trapToHyp hlim => exact hlim
    · cases exec_faultsUnderGuard h with
      | rangeTrap hlim _ => exact hlim
  · cases exec_faultsUnderGuard h with
    | trapToEL3 hel htpm => exact ⟨hel, htpm⟩
  · cases exec_faultsUnderGuard h with
    | reroutedToHyp hel hdis hel2 h32 htge => exact ⟨hel, hdis, hel2, h32, htge⟩

end Sys2Proof.Machine

namespace Sys2Proof.Machine

/-! ### A reset outside the bank (logs 9, 11 and 14) -/

/-- A reset empties the lists of replaced contents, whatever PE state it leaves (log 14). -/
theorem State.superseded_applyEnv_reset (s : State) (kind : ResetKind) (p : PE) (n : Fin 31) :
    (s.applyEnv (.reset kind p)).superseded[n] = [] := by
  simp only [State.applyEnv, State.withPE_superseded, State.resetBank_superseded, Fin.getElem_fin,
    Vector.getElem_replicate]

/-- Settles O42: the reset turn is the reset of the bank, which changes nothing outside it, and then the PE state the
event carries. -/
theorem resetOutsideTheBank : Obligations.ResetOutsideTheBank := by
  intro s kind p rest ht
  obtain ⟨himpl, hmem, hturns, hdraws, -⟩ := State.applyEnv_frame { s with turns := rest } (.reset kind p)
  exact ⟨_, step_of_env_turn ht, himpl, hturns, hdraws, rfl, rfl, rfl, rfl,
    State.superseded_applyEnv_reset _ kind p, fun a => congrArg (Memory.read · a) hmem⟩

/-! ### Which contents may govern counting (R203) -/

/-- A transfer to the bank puts the new content in front of those that could govern before it. -/
theorem State.governing_transfer_mcr (s : State) (n : Fin 31) (x : BitVec 4) :
    (s.transfer .mcr n x).governing n = (s.transfer .mcr n x).reg n :: s.governing n := by
  rw [State.governing, State.transfer, State.superseded_setReg_same, State.governing]

/-- The end of an access moves the pc and the count of draws, so the same contents may govern. -/
@[simp] theorem State.governing_advance (s : State) (n : Fin 31) : s.advance.governing n = s.governing n := rfl

/-- A context synchronisation event leaves every register as it is. -/
theorem State.reg_applyEnv_contextSync (s : State) (n : Fin 31) : (s.applyEnv .contextSync).reg n = s.reg n := rfl

/-- A context synchronisation event leaves no replaced content to govern. -/
theorem State.superseded_applyEnv_contextSync (s : State) (n : Fin 31) :
    (s.applyEnv .contextSync).superseded[n] = [] := by
  simp only [State.applyEnv, Fin.getElem_fin, Vector.getElem_replicate]

/-- With nothing replaced, the current content is the only one that may govern. -/
theorem State.governing_of_settled {s : State} {n : Fin 31} (hs : s.superseded[n] = []) :
    s.governing n = [s.reg n] := by rw [State.governing, hs]

/-- Settles O56: what governs is among the contents that may; a write adds to them, and a context synchronisation event
leaves the current one alone. -/
theorem oldOrNewValueGovernsUntilContextSync : Obligations.OldOrNewValueGovernsUntilContextSync := by
  intro s o n
  refine ⟨List.mem_cons.1 (s.governingReg_mem o n), ?_, fun rest ht => ?_⟩
  · rintro i hk rfl ha hp hc hr
    refine ⟨_, exec_transfers ha hp (hk ▸ hc) hr, ?_⟩
    rw [hk, State.governing_advance, State.reg_advance, State.governing_transfer_mcr]
  · have hreg := State.reg_applyEnv_contextSync { s with turns := rest } n
    have hsettled := State.superseded_applyEnv_contextSync { s with turns := rest } n
    refine ⟨_, step_of_env_turn ht, hreg, ?_, ?_⟩
    · rw [State.governing_of_settled hsettled, hreg, State.reg_withTurns]
    · rw [State.governingReg_of_settled o hsettled, hreg, State.reg_withTurns]

/-! ### A read after a write (R115, R116, R204) -/

/-- A transfer to the bank leaves the written content in its register (R114, R116). -/
theorem State.reg_transfer_mcr (s : State) (n : Fin 31) (x : BitVec 4) :
    (s.transfer .mcr n x).reg n = writtenReg s.impl (s.readX x) := s.reg_setReg_same n _

/-- A write leaves evtCount alone UNKNOWN, for a number that reads back UNKNOWN (R116). -/
theorem writtenReg_unknown_iff (c : Impl) (v : Word) (b : Nat) :
    (writtenReg c v).unknown.getLsbD b = true ↔
      evtReadbackUnknown c (evtNum c v) = true ∧ (evtMask c).getLsbD b = true := by
  rw [writtenReg, writtenUnknown, maskWhen_getLsbD, Bool.and_eq_true]

/-- A bit that is RW, or RES0 and holding state, is stored as written (R34, R116). -/
theorem writtenReg_value_getLsbD {c : Impl} {b : Nat} (hb : b < 32)
    (hheld : ¬((res0Mask c).getLsbD b = true ∧ c.res0Stateful = false)) (v : Word) :
    (writtenReg c v).value.getLsbD b = v.getLsbD b := by
  have hkeep : (keepMask c).getLsbD b = true := by
    rw [res0Mask_getLsbD hb] at hheld
    rw [keepMask_getLsbD hb]
    cases hs : c.res0Stateful
    · simpa [hs] using hheld
    · rfl
  rw [writtenReg, BitVec.getLsbD_and, hkeep, Bool.and_true]

/-- What a read returns of a content just written: the draw, 0, or the bit written (R115, R116). -/
theorem readValue_writtenReg_getLsbD (c : Impl) (v d : Word) {b : Nat} (hb : b < 32) :
    (readValue c (writtenReg c v) d).getLsbD b =
      if evtReadbackUnknown c (evtNum c v) = true ∧ (evtMask c).getLsbD b = true then d.getLsbD b
      else if (res0Mask c).getLsbD b = true ∧ c.res0Stateful = false then false
      else v.getLsbD b := by
  rw [readValue_getLsbD c _ d hb]
  refine if_congr (writtenReg_unknown_iff c v b) rfl ?_
  split
  · rfl
  · next hheld => exact writtenReg_value_getLsbD hb hheld v

/-- Settles O39: the write leaves implementation and context, so the read transfers too, from the content written. -/
theorem readAfterWriteReturnsTheValue : Obligations.ReadAfterWriteReturnsTheValue := by
  intro w r s hw hr hreg haw har hp hcw hcr hreach
  have hwrite : exec w s = .next (s.transfer .mcr w.reg w.rt).advance :=
    hw ▸ exec_transfers haw hp (hw ▸ hcw) hreach
  have hread := exec_transfers (s := (s.transfer .mcr w.reg w.rt).advance) har hp (hr ▸ hcr) (hreg ▸ hreach)
  refine ⟨_, _, hwrite, hread, fun b hb => ?_⟩
  rw [hr, ← hreg, State.readX_advance, State.transfer, State.readX_writeX_same _ har.2, State.reg_advance,
    State.reg_transfer_mcr]
  exact readValue_writtenReg_getLsbD s.impl _ _ hb

end Sys2Proof.Machine
